-- ==== Sys2Proof/Word.lean ====
section
/-! DEFINITION. The word types of the machine: the byte, the four-bit line groups, and the one word that a stimulus
trace holds. The three formats are the ones spec/opcode_table.json lists: the 24-bit event word EVW (R96), the
8-bit command byte CMD (R94) and the 16-bit bus frame FRAME (R91). -/

namespace Sys2Proof

/-- A byte: 8 bits, read as an unsigned integer 0 to 255 (R11). -/
abbrev Byte := BitVec 8

/-- Four lines of the keypad at one instant, bit `r` or `c` for line `r` or `c` (R92, R93). -/
abbrev Lines := BitVec 4

/-- One word of a stimulus trace, tagged with the format that fixes its width. -/
inductive Word where
  /-- An event word (R96). -/
  | evw (w : BitVec 24)
  /-- A command byte (R94). -/
  | cmd (w : BitVec 8)
  /-- A bus frame, address byte in bits 15:8, payload byte in bits 7:0 (R91). -/
  | frame (w : BitVec 16)
deriving DecidableEq, Repr

/-- The number of bits of a word's format. -/
def Word.width : Word → Nat
  | .evw _ => 24
  | .cmd _ => 8
  | .frame _ => 16

/-- The word's bits as a number, bit 0 the least significant bit (R11). -/
def Word.toNat : Word → Nat
  | .evw w => w.toNat
  | .cmd w => w.toNat
  | .frame w => w.toNat

/-- The word of a given width whose bits are `w`; no format has any other width (R106). -/
def Word.ofBits (nbits w : Nat) : Option Word :=
  if nbits = 24 then some (.evw (BitVec.ofNat 24 w))
  else if nbits = 8 then some (.cmd (BitVec.ofNat 8 w))
  else if nbits = 16 then some (.frame (BitVec.ofNat 16 w))
  else none

end Sys2Proof
end

