-- ==== Sys2Proof/Config.lean ====
section
/-! DEFINITION. The parameters of the machine (R7, R8): what an implementation fixes before reset and no operation
writes. They are no state (R10). `Config.platform` is the one opaque value of them that the machine runs under, so
that whatever is proved of the machine holds for every choice the spec leaves open. -/

namespace Sys2Proof

/-- What `BEGIN_SEND` does when `tx_index = 1` (`OVERWRITE_POLICY`, R8, R175). -/
inductive OverwritePolicy where
  /-- The buffer is overwritten, no start is issued (R163); the spec's default. -/
  | bufferOnly
  /-- As `bufferOnly`, and a new start is issued over the old one. -/
  | restart
  /-- The call is dropped. -/
  | ignore
deriving DecidableEq, Repr, Inhabited

/-- Whether a key re-locks an unlocked controller (`RELOCK_POLICY`, R8, R196). -/
inductive RelockPolicy where
  /-- No key re-locks; the spec's default. -/
  | none
  /-- The key character `c` re-locks. -/
  | key (c : Byte)
deriving DecidableEq, Repr, Inhabited

/-- The context the dispatcher runs in: "polled or interrupt-driven, implementation choice" (R205, R210, R256). -/
inductive DispatchContext where
  /-- Polled: `DISPATCH` is a host step, held up by a scan (R131) and subject to the host's order (R193). -/
  | mainLoop
  /-- Interrupt-driven: `DISPATCH` may fall inside a scan and between two host steps. -/
  | interrupt
deriving DecidableEq, Repr, Inhabited

/-- An RGB triple of 8-bit channel values (R151). -/
structure Rgb where
  r : Byte
  g : Byte
  b : Byte
deriving DecidableEq, Repr, Inhabited

/-- The parameters of R7 and R8, and the constraints R222, R228, D10 and U10 put on them. The field defaults are the
spec's where it offers one; the two address defaults are test values of 95_test_vectors.md and serve only to show
that the constraints can be met. -/
structure Config where
  /-- `UNLOCK_CODE`: the 4 key characters of the unlock code. -/
  unlockCode : Vector Byte 4
  /-- `ADDR_LED`: the address of the LED-pattern peripheral. -/
  addrLed : Byte := 0x40#8
  /-- `ADDR_LCD`: the address of the LCD-display peripheral. -/
  addrLcd : Byte := 0x42#8
  /-- `DEBOUNCE_DELAY`: scanner steps spent in SETTLE (R124). -/
  debounceDelay : Nat
  /-- `THRESHOLD`: ticks of silence at which the LED begins to blink (R228). -/
  threshold : Nat := 3
  /-- `IDLE_W`: the width of `idleTicks` (R222). -/
  idleW : Nat := 16
  /-- `KEYMAP`: 16 key characters, entry `4*r + c` for row `r`, column `c` (R62, R95, R100). -/
  keymap : Vector Byte 16
  /-- `PERIOD`: the duty-cycle timer period (R152). -/
  period : Nat
  /-- `COLOR_LOCKED`, deep red (R151). -/
  colorLocked : Rgb
  /-- `COLOR_ENTERING`, amber (R151). -/
  colorEntering : Rgb
  /-- `COLOR_UNLOCKED`, blue (R151). -/
  colorUnlocked : Rgb
  /-- `COLOR_DEFAULT`, white: no value of the three-valued `lock_state` reaches it (R151, U11). -/
  colorDefault : Rgb
  /-- `OWN_ADDRS`: the addresses the node's receive half answers to (R72, R73). -/
  ownAddrs : List Byte
  /-- `RELEASE_TIMEOUT`: the bound on the key-release wait, if there is one (R133). -/
  releaseTimeout : Option Nat := none
  /-- `OVERWRITE_POLICY` (R175). -/
  overwritePolicy : OverwritePolicy := .bufferOnly
  /-- `RELOCK_POLICY` (R196). -/
  relockPolicy : RelockPolicy := .none
  /-- Where the dispatcher runs (R210). -/
  dispatchContext : DispatchContext
  /-- "two independent peripheral addresses" (R72, D10). -/
  addrs_ne : addrLed ≠ addrLcd := by decide
  /-- `THRESHOLD >= 1` (R228). -/
  threshold_pos : 1 ≤ threshold := by decide
  /-- `THRESHOLD <= 2^IDLE_W - 1` (R222). -/
  threshold_le : threshold ≤ 2 ^ idleW - 1 := by decide
deriving DecidableEq, Repr, Inhabited

/-- The parameters of the machine at hand. Opaque: nothing about them can be proved but the constraints that
`Config` carries (DESIGN CHOICE, safe: assumption 14). -/
opaque Config.platform : Config

/-- The largest value `idleTicks` holds, `2^IDLE_W - 1` (R39). -/
def Config.idleMax (c : Config) : Nat := 2 ^ c.idleW - 1

end Sys2Proof
end

