-- ==== Sys2Proof/Syntax.lean ====
section
/-! DEFINITION. The syntax: one constructor of `Instr` per row of spec/opcode_table.json (eleven operations, three
command bytes, one frame), and the command alphabet that `DISPATCH` decodes. -/

namespace Sys2Proof

/-- The command-byte alphabet (R94). -/
inductive Command where
  /-- `CMD_U`, byte 0x55: "system unlocked". -/
  | unlock
  /-- `CMD_DIGIT p`, bytes 0x30 to 0x37: select display pattern `p`. -/
  | digit (p : BitVec 3)
  /-- `CMD_RESERVED`: each of the other 247 byte values. -/
  | reserved
deriving DecidableEq, Repr

/-- The operations of R90, the command bytes of R94 and the frame of R91. -/
inductive Instr where
  /-- `SCAN_START`: the host begins a scan (R121). -/
  | scanStart
  /-- `SCAN_STEP s`: the scanner takes one step with the column sample `s` (R122). -/
  | scanStep (s : Lines)
  /-- `BEGIN_SEND a, b`: the host asks for the frame `a`, `b` to be sent (R161). -/
  | beginSend (a b : Byte)
  /-- `TX_EVENT`: the bus hardware reports "byte transmitted" (R165). -/
  | txEvent
  /-- `RX_EVENT b`: the bus hardware reports "byte received" with the byte `b` (R168). -/
  | rxEvent (b : Byte)
  /-- `RX_TAKE`: the host takes the byte out of the mailbox (R169). -/
  | rxTake
  /-- `TICK`: the hardware timer overflows (R221). -/
  | tick
  /-- `ACT_RESET`: bus activity was observed (R223). -/
  | actReset
  /-- `DISPATCH`: the dispatcher observes the byte in the mailbox (R206). -/
  | dispatch
  /-- `KEY k`: the unlock state machine consumes the key event `k` (R191). -/
  | key (k : Byte)
  /-- `RGB_REFRESH`: the host recomputes the three duty values (R153). -/
  | rgbRefresh
  /-- `CMD_U`, the command byte 0x55 (R207). -/
  | cmdU
  /-- `CMD_DIGIT p`, the command bytes 0x30 to 0x37 (R208). -/
  | cmdDigit (p : BitVec 3)
  /-- `CMD_RESERVED`, any other command byte; `b` is the byte (R209). -/
  | cmdReserved (b : Byte)
  /-- `FRAME`: a bus frame, address byte `a` first, payload byte `p` second (R91). -/
  | frame (a p : Byte)
deriving DecidableEq, Repr

end Sys2Proof
end

