-- ==== Sys2Proof/WellFormed.lean ====
section
/-! DEFINITION. Which terms of `Instr` stand for a word. Every field of `Instr` has the width its encoding gives it,
so one constructor needs a check: the byte of `CMD_RESERVED` is neither of the two patterns decoded before it (R94). -/

namespace Sys2Proof

/-- The check on an instruction's fields: a reserved byte is not `'U'`, and its bits 7:3 are not `00110` (R94). -/
def wellFormed : Instr → Bool
  | .cmdReserved b => b != 0x55#8 && b.extractLsb' 3 5 != 0b00110#5
  | .scanStart | .scanStep _ | .beginSend _ _ | .txEvent | .rxEvent _ | .rxTake | .tick | .actReset | .dispatch
  | .key _ | .rgbRefresh | .cmdU | .cmdDigit _ | .frame _ _ => true

/-- An instruction that stands for a word. -/
abbrev Instr.WellFormed (i : Instr) : Prop := wellFormed i = true

end Sys2Proof
end

