-- ==== Sys2Proof/Decode.lean ====
section
/-! DEFINITION. The decoder, total on every word and rejecting by name (R94, R96, R101, R105), the byte order of each
format, the encoder written from the same tables, and the rows of spec/opcode_table.json. -/

namespace Sys2Proof

/-- Why a word is no instruction (R105). -/
inductive DecodeError where
  /-- An event word whose operation code is 0x0 or 0xC to 0xF. -/
  | reservedOp
  /-- An event word whose bits 19:16 are not zero. -/
  | zNonzero
  /-- An event word with a nonzero operand bit that must be zero. -/
  | operandNonzero
  /-- A byte string of a length that no format has (R106). -/
  | badLength
deriving DecidableEq, Repr

/-- Bits 23:20 of an event word: the operation code (R96). -/
def evwOp (w : BitVec 24) : BitVec 4 := w.extractLsb' 20 4

/-- Bits 19:16 of an event word, which must be zero (R96). -/
def evwZ (w : BitVec 24) : BitVec 4 := w.extractLsb' 16 4

/-- Bits 15:8 of an event word: the first operand (R96). -/
def evwA (w : BitVec 24) : Byte := w.extractLsb' 8 8

/-- Bits 7:0 of an event word: the second operand (R96). -/
def evwB (w : BitVec 24) : Byte := w.extractLsb' 0 8

/-- An instruction accepted only if the operand bits that must be zero are (R96, R105). -/
def operandsIf (zero : Bool) (i : Instr) : Except DecodeError Instr :=
  if zero then .ok i else .error .operandNonzero

/-- The event word (R96); its operands are taken as they stand (R101). -/
def decodeEvw (w : BitVec 24) : Except DecodeError Instr :=
  let a := evwA w
  let b := evwB w
  if evwZ w ≠ 0#4 then .error .zNonzero
  else match (evwOp w).toNat with
    | 0x1 => operandsIf (a == 0#8 && b == 0#8) .scanStart
    | 0x2 => operandsIf (a == 0#8 && b.extractLsb' 4 4 == 0#4) (.scanStep (b.extractLsb' 0 4))
    | 0x3 => .ok (.beginSend a b)
    | 0x4 => operandsIf (a == 0#8 && b == 0#8) .txEvent
    | 0x5 => operandsIf (a == 0#8) (.rxEvent b)
    | 0x6 => operandsIf (a == 0#8 && b == 0#8) .rxTake
    | 0x7 => operandsIf (a == 0#8 && b == 0#8) .tick
    | 0x8 => operandsIf (a == 0#8 && b == 0#8) .actReset
    | 0x9 => operandsIf (a == 0#8 && b == 0#8) .dispatch
    | 0xA => operandsIf (a == 0#8) (.key b)
    | 0xB => operandsIf (a == 0#8 && b == 0#8) .rgbRefresh
    | _ => .error .reservedOp

/-- The command a byte carries: the first matching row of R94 applies. The pattern index is bits 2:0 (R98). -/
def decodeCommand (b : Byte) : Command :=
  if b = 0x55#8 then .unlock
  else if b.extractLsb' 3 5 = 0b00110#5 then .digit (b.extractLsb' 0 3)
  else .reserved

/-- The command byte as an instruction (R94); no command byte is illegal (R102). -/
def decodeCmd (b : Byte) : Instr :=
  match decodeCommand b with
  | .unlock => .cmdU
  | .digit p => .cmdDigit p
  | .reserved => .cmdReserved b

/-- The bus frame (R91): every 16-bit value is one. -/
def decodeFrame (w : BitVec 16) : Instr := .frame (w.extractLsb' 8 8) (w.extractLsb' 0 8)

/-- The decoder. -/
def decode : Word → Except DecodeError Instr
  | .evw w => decodeEvw w
  | .cmd b => .ok (decodeCmd b)
  | .frame w => .ok (decodeFrame w)

/-- The bytes of a word, most significant first: a frame is "sent most significant byte first" (R91, R65), and an event
word is written as six hexadecimal digits in that order (DESIGN CHOICE, safe: assumption 16). -/
def wordBytes : Word → List Byte
  | .evw w => [w.extractLsb' 16 8, w.extractLsb' 8 8, w.extractLsb' 0 8]
  | .cmd b => [b]
  | .frame w => [w.extractLsb' 8 8, w.extractLsb' 0 8]

/-- The word a byte string stands for: its length names the format (R106). -/
def wordOfBytes : List Byte → Option Word
  | [x, y, z] => some (.evw (x ++ y ++ z))
  | [b] => some (.cmd b)
  | [a, p] => some (.frame (a ++ p))
  | _ => none

/-- The decoder on a byte string. -/
def decodeBytes (bs : List Byte) : Except DecodeError Instr :=
  match wordOfBytes bs with
  | some w => decode w
  | none => .error .badLength

/-- The event word with operation code `op` and operands `a` and `b` (R96). -/
def evwWord (op : BitVec 4) (a b : Byte) : Word := .evw (op ++ 0#4 ++ a ++ b)

/-- The encoder (R91, R94, R96). -/
def encode : Instr → Word
  | .scanStart => evwWord 0x1#4 0#8 0#8
  | .scanStep s => evwWord 0x2#4 0#8 (0#4 ++ s)
  | .beginSend a b => evwWord 0x3#4 a b
  | .txEvent => evwWord 0x4#4 0#8 0#8
  | .rxEvent b => evwWord 0x5#4 0#8 b
  | .rxTake => evwWord 0x6#4 0#8 0#8
  | .tick => evwWord 0x7#4 0#8 0#8
  | .actReset => evwWord 0x8#4 0#8 0#8
  | .dispatch => evwWord 0x9#4 0#8 0#8
  | .key k => evwWord 0xA#4 0#8 k
  | .rgbRefresh => evwWord 0xB#4 0#8 0#8
  | .cmdU => .cmd 0x55#8
  | .cmdDigit p => .cmd (0b00110#5 ++ p)
  | .cmdReserved b => .cmd b
  | .frame a p => .frame (a ++ p)

/-- A row of spec/opcode_table.json: a word of `width` bits belongs to it when its bits under `mask` are `value`. -/
structure Row where
  mnemonic : String
  width : Nat
  mask : Nat
  value : Nat
deriving DecidableEq, Repr

/-- The eleven event-word rows of the table. -/
def evwRows : List Row :=
  [⟨"SCAN_START", 24, 0xFFFFFF, 0x100000⟩, ⟨"SCAN_STEP", 24, 0xFFFFF0, 0x200000⟩,
   ⟨"BEGIN_SEND", 24, 0xFF0000, 0x300000⟩, ⟨"TX_EVENT", 24, 0xFFFFFF, 0x400000⟩,
   ⟨"RX_EVENT", 24, 0xFFFF00, 0x500000⟩, ⟨"RX_TAKE", 24, 0xFFFFFF, 0x600000⟩,
   ⟨"TICK", 24, 0xFFFFFF, 0x700000⟩, ⟨"ACT_RESET", 24, 0xFFFFFF, 0x800000⟩,
   ⟨"DISPATCH", 24, 0xFFFFFF, 0x900000⟩, ⟨"KEY", 24, 0xFFFF00, 0xA00000⟩,
   ⟨"RGB_REFRESH", 24, 0xFFFFFF, 0xB00000⟩]

/-- The command-byte rows, in decoding order (R94), and the frame row. -/
def otherRows : List Row :=
  [⟨"CMD_U", 8, 0xFF, 0x55⟩, ⟨"CMD_DIGIT", 8, 0xF8, 0x30⟩, ⟨"CMD_RESERVED", 8, 0, 0⟩, ⟨"FRAME", 16, 0, 0⟩]

/-- The mnemonic of an instruction's row. -/
def mnemonicOf : Instr → String
  | .scanStart => "SCAN_START"
  | .scanStep _ => "SCAN_STEP"
  | .beginSend _ _ => "BEGIN_SEND"
  | .txEvent => "TX_EVENT"
  | .rxEvent _ => "RX_EVENT"
  | .rxTake => "RX_TAKE"
  | .tick => "TICK"
  | .actReset => "ACT_RESET"
  | .dispatch => "DISPATCH"
  | .key _ => "KEY"
  | .rgbRefresh => "RGB_REFRESH"
  | .cmdU => "CMD_U"
  | .cmdDigit _ => "CMD_DIGIT"
  | .cmdReserved _ => "CMD_RESERVED"
  | .frame _ _ => "FRAME"

/-- A word's bits under the row's mask are the row's value. -/
def rowHolds (r : Row) (w : Word) : Bool := w.width == r.width && (w.toNat &&& r.mask) == r.value

/-- The instruction the decoder reads from an instruction of `nbits` bits whose bits are `w`, numbered as
spec/opcode_table.json numbers them: the bits are laid out as bytes in the format's order and decoded. -/
def decodeTableWord (nbits w : Nat) : Option Instr :=
  (Word.ofBits nbits w).bind fun x => (decodeBytes (wordBytes x)).toOption

end Sys2Proof
end

