-- ==== Sys2Proof/Machine/State.lean ====
section
/-! DEFINITION. The state of one node (10_state.md), the state after reset (R51), and the reasons a step can stop.

`Node` is the state of the spec, exactly the list of 10_state.md (R10): every element of R51 is a field under its spec
name, in camel case. `State` is a node with the two ends of the host's interface to it, which are no state of the spec:
`takeResult`, the byte the last `RX_TAKE` returned to the host (R169), and `stimulus`, the events the environment has
lined up for the node (R9, R108): DESIGN CHOICE, safe, assumptions 12 and 2.
There is no memory (R60), no program counter (R28) and no register file (R20). -/

namespace Sys2Proof.Machine

/-- The scanner's state `scan` (R29). Rows and columns are numbered 0 to 3. -/
inductive ScanState where
  /-- `IDLE`: no scan is running. -/
  | idle
  /-- `PROBE r`: row `r` is low and its columns are about to be sampled. -/
  | probe (r : Fin 4)
  /-- `SETTLE r c n`: a closed contact was found at row `r`, column `c`, and `n` settle steps remain, `n >= 1`. -/
  | settle (r c : Fin 4) (n : Nat)
  /-- `WAIT r c`: the scanner blocks until the contact opens. `held` is the count of consecutive closed samples that
  R133 adds; without a `RELEASE_TIMEOUT` it stays 0. -/
  | wait (r c : Fin 4) (held : Nat)
deriving DecidableEq, Repr

/-- The transmit cursor `tx_index`; the value 3 of a 2-bit register is never produced (R30). -/
inductive TxIndex where
  /-- 0, IDLE: nothing queued. -/
  | idle
  /-- 1, ADDR_SENT: start issued, the address byte in transit (R31). -/
  | addrSent
  /-- 2, DONE: payload loaded, in transit. -/
  | done
deriving DecidableEq, Repr

/-- `lock_state` (R42); its numeric encoding is in no source (R97). -/
inductive LockState where
  | locked
  | entering
  | unlocked
deriving DecidableEq, Repr

/-- A pending `BEGIN_SEND` call of the host (R42, R193). -/
structure SendReq where
  addr : Byte
  payload : Byte
deriving DecidableEq, Repr

/-- The output events of R48. -/
inductive OutEvent where
  /-- `Start(a)`: start condition with the target address, to the PHY. -/
  | start (a : Byte)
  /-- `LoadTx(b)`: load the transmit register, to the PHY. -/
  | loadTx (b : Byte)
  /-- `Stop`: stop condition, to the PHY. -/
  | stop
  /-- `ScanDone(k)`: a scan completed, with no key or a key character, to the host. -/
  | scanDone (k : Option Byte)
  /-- `Render(p)`, to the LCD collaborator. -/
  | render (p : BitVec 3)
  /-- `Duty(r, g, b)`, to the RGB timer collaborator. -/
  | duty (r g b : Nat)
deriving DecidableEq, Repr

/-- The silent conditions that `note` records (R49). -/
inductive Note where
  /-- Error class 1 (R241). -/
  | inputMismatch
  /-- Error class 2 (R242). -/
  | transferOverwrite
  /-- Error class 3 (R243). -/
  | malformedReceive
  /-- A received byte was overwritten unobserved (R245, R47). -/
  | rxLost
  /-- A "byte transmitted" event arrived with `tx_index = 0` (R245, R166). -/
  | spuriousTx
deriving DecidableEq, Repr

/-- The state of one node: exactly what 10_state.md lists (R10). -/
@[ext]
structure Node where
  /-- `scan` (R29). -/
  scan : ScanState
  /-- `row_n`, 4 bits, bit `r` = 0 drives row `r` low (R26). -/
  rowN : Lines
  /-- `key_valid`, 1 bit (R24). -/
  keyValid : Bool
  /-- `key_char`, 8 bits (R24, R25). -/
  keyChar : Byte
  /-- `tx_index` (R30). -/
  txIndex : TxIndex
  /-- `tx_addr`, 8 bits (R21, R22). -/
  txAddr : Byte
  /-- `tx_payload`, 8 bits (R21). -/
  txPayload : Byte
  /-- `rx_full`, 1 bit (R33). -/
  rxFull : Bool
  /-- `rx_byte`, 8 bits (R23). -/
  rxByte : Byte
  /-- `idleTicks`, an integer 0 to `2^IDLE_W - 1` (R39). -/
  idleTicks : Nat
  /-- `led`, 1 bit, true = lit (R40). -/
  led : Bool
  /-- `lock_state` (R42). -/
  lockState : LockState
  /-- `code_index`: 0 to 3 between operations; the value 4 exists only inside `KEY` (R42, R106;
  DESIGN CHOICE, safe: assumption 10). -/
  codeIndex : Fin 4
  /-- `host_todo`: the `BEGIN_SEND` calls that `KEY` leaves for the host's next steps (R42, R193). -/
  hostTodo : List SendReq
  /-- `unlocked`, 1 bit (R43). -/
  unlocked : Bool
  /-- `activePattern`, 3 bits (R43). -/
  activePattern : BitVec 3
  /-- `phy_pending`: bytes handed to the PHY and not yet reported sent (R46, R171). -/
  phyPending : Nat
  /-- `out`: the output trace, oldest event first (R48). -/
  out : List OutEvent
  /-- `g_input_mismatch` (R49). -/
  gInputMismatch : Bool
  /-- `g_transfer_overwrite` (R49). -/
  gTransferOverwrite : Bool
  /-- `g_malformed_receive` (R49). -/
  gMalformedReceive : Bool
  /-- `g_rx_lost` (R49). -/
  gRxLost : Bool
  /-- `g_spurious_tx` (R49). -/
  gSpuriousTx : Bool
deriving DecidableEq, Repr

/-- A node, the result it last handed its host and the events it is to meet next. No operation reads the two fields added
here. -/
@[ext]
structure State extends Node where
  /-- The model's own: the byte the last `RX_TAKE` returned to the host (R169). -/
  takeResult : Option Byte
  /-- The model's own: the words of the stimulus trace not yet run, the next one first (R9, R108). -/
  stimulus : List Word
deriving DecidableEq, Repr

/-- The state after reset (R51). The four data registers `tx_addr`, `tx_payload`, `rx_byte` and `key_char` have no reset
value in the spec and are 0 here (DESIGN CHOICE, unsafe: assumption 1). -/
def State.reset : State where
  scan := .idle
  rowN := 0b1111#4
  keyValid := false
  keyChar := 0#8
  txIndex := .idle
  txAddr := 0#8
  txPayload := 0#8
  rxFull := false
  rxByte := 0#8
  idleTicks := 0
  led := true
  lockState := .locked
  codeIndex := 0
  hostTodo := []
  unlocked := false
  activePattern := 0#3
  phyPending := 0
  out := []
  gInputMismatch := false
  gTransferOverwrite := false
  gMalformedReceive := false
  gRxLost := false
  gSpuriousTx := false
  takeResult := none
  stimulus := []

/-- The faults: none. "The block raises no exception, under any input" (R240), and part 1 of
93_implementation_defined.md gives no behaviour the treatment `fault`. -/
inductive Fault
deriving DecidableEq, Repr

/-- The refusals. Each stands for an input that the spec says a model does not accept (R105, R108, U13, U14): a constraint
on the environment or the host program, not a behaviour of the block. All are safe: the model stops where the machine
cannot be. -/
inductive Refusal where
  /-- Raised by an arm of `exec` whose instruction has no meaning yet; safe. -/
  | notModelled (mnemonic : String)
  /-- Raised by `step` on a word that decodes to no instruction (R105); safe. -/
  | invalidWord (e : DecodeError)
  /-- Raised by `SCAN_START` when `scan` is not `IDLE` (R121, R293); safe. -/
  | scanRunning
  /-- Raised by `SCAN_STEP` when `scan` is `IDLE` (R122); safe. -/
  | noScanRunning
  /-- Raised by a host operation inside a scan (R131, U14); safe. -/
  | hostInsideScan
  /-- Raised by `runHost` and `runTrace`, and by no operation: a trace of the host program has another host operation than the
  send that is due while `host_todo` holds a call (R193); safe. -/
  | sendsPending
  /-- Raised by `RX_TAKE` and `DISPATCH` when `rx_full` is 0 (R169, R206); safe. -/
  | mailboxEmpty
  /-- Raised by `TX_EVENT` when `phy_pending` is 0 (R165, R171); safe. -/
  | noByteInPhy
  /-- Raised by `runTrace` on a trace that does not end with the scanner idle and `host_todo` empty (R276); safe. -/
  | illFormedEnd
deriving DecidableEq, Repr

/-- What one operation answers. -/
abbrev Result := Host.Outcome State Fault Refusal

end Sys2Proof.Machine
end

