-- ==== Sys2Proof/Machine/Operands.lean ====
section
/-! DEFINITION. Operand forms and arithmetic: the row and column formats, the keypad's electrical model, the keymap and
code look-ups, the saturating increment and the duty-cycle scaling. -/

namespace Sys2Proof.Machine

/-- `onecold(r)`: bit `r` is 0 and the other three bits are 1 (R12, R92). -/
def oneCold (r : Fin 4) : Lines := ~~~(1#4 <<< r.val)

/-- `row_n` with no row active (R92). -/
def rowsHigh : Lines := 0b1111#4

/-- Column `c` of a sample reads low: a contact in the active row and column `c` is closed (R93). -/
def columnLow (s : Lines) (c : Fin 4) : Bool := !s.getLsbD c.val

/-- `lowest_zero(s)`: the least column that reads low (R12, R93). -/
def lowestZero (s : Lines) : Option (Fin 4) :=
  if columnLow s 0 then some 0
  else if columnLow s 1 then some 1
  else if columnLow s 2 then some 2
  else if columnLow s 3 then some 3
  else none

/-- The keymap index `4*r + c` of a contact, format KEYPOS `r[1:0], c[1:0]` (R95). -/
def keyPos (r c : Fin 4) : Fin 16 := ⟨4 * r.val + c.val, by omega⟩

/-- `KEYMAP[r][c]` (R62, R100). -/
def keyAt (cfg : Config) (r c : Fin 4) : Byte := cfg.keymap[keyPos r c]

/-- `UNLOCK_CODE[i]` (R190, R191). -/
def codeAt (cfg : Config) (i : Fin 4) : Byte := cfg.unlockCode[i]

/-- `col_n` for a row drive and a contact matrix: column `c` reads 0 exactly when some active row has its contact with
`c` closed; otherwise the pull-up wins (R63; no ghosting, safe: assumption 20). -/
def sampleCols (rowN : Lines) (closed : Fin 4 → Fin 4 → Bool) : Lines :=
  let open' (c : Fin 4) : Bool := !((columnLow rowN 0 && closed 0 c) || (columnLow rowN 1 && closed 1 c)
    || (columnLow rowN 2 && closed 2 c) || (columnLow rowN 3 && closed 3 c))
  BitVec.ofBool (open' 3) ++ BitVec.ofBool (open' 2) ++ BitVec.ofBool (open' 1) ++ BitVec.ofBool (open' 0)

/-- The result of a scan over contacts that do not change: the closed contact with the least `4*r + c` (R126). -/
def scanResult (cfg : Config) (closed : Fin 4 → Fin 4 → Bool) : Option Byte :=
  ((List.finRange 16).find? fun i => closed ⟨i.val / 4, by omega⟩ ⟨i.val % 4, by omega⟩).map fun i => cfg.keymap[i]

/-- `sat_inc_IDLE_W(v)` (R12, R222). -/
def satInc (cfg : Config) (v : Nat) : Nat := if v < cfg.idleMax then v + 1 else v

/-- The next position of the code cursor; at the last position the cursor goes back to 0 in the same step (R191). -/
def nextCode (i : Fin 4) : Fin 4 := i + 1

/-- `colorFor(state)` (R151). The state has three values, so `COLOR_DEFAULT` is not reached (DEDUCED, safe: assumption 15). -/
def colorFor (cfg : Config) : LockState → Rgb
  | .locked => cfg.colorLocked
  | .entering => cfg.colorEntering
  | .unlocked => cfg.colorUnlocked

/-- `toDutyCycle(component, period)`, in unbounded natural numbers (R152). -/
def toDutyCycle (component : Byte) (period : Nat) : Nat := (2 * component.toNat * period + 255) / 510

/-- The address is one of `OWN_ADDRS` (R73). -/
def ownsAddr (cfg : Config) (a : Byte) : Bool := cfg.ownAddrs.contains a

/-- The character `'U'`, 0x55 (R6). -/
def charU : Byte := 0x55#8

end Sys2Proof.Machine
end

