-- ==== Sys2Proof/Machine/Flags.lean ====
section
/-! DEFINITION. The one-bit status elements (R32, R36) and the ghost indicators (R49): how each is written, and the
derived signal `tx_busy`. -/

namespace Sys2Proof.Machine

/-- `tx_busy`, the value of `tx_index ≠ 0` (R34). -/
def txBusy (s : State) : Bool := s.txIndex != .idle

/-- The LED after a tick that brought the count to `n`: toggled at or above the threshold, lit below it (R221, R224). -/
def ledAfter (cfg : Config) (n : Nat) (led : Bool) : Bool := if cfg.threshold ≤ n then !led else true

/-- `note`: set a sticky ghost indicator and change nothing else (R12, R49). This is the block's whole answer to an error:
no control transfer, no cause code, nothing saved (R240). -/
def note (n : Note) (s : State) : State :=
  match n with
  | .inputMismatch => { s with gInputMismatch := true }
  | .transferOverwrite => { s with gTransferOverwrite := true }
  | .malformedReceive => { s with gMalformedReceive := true }
  | .rxLost => { s with gRxLost := true }
  | .spuriousTx => { s with gSpuriousTx := true }

/-- `note`, under a condition. -/
def noteIf (b : Bool) (n : Note) (s : State) : State := if b then note n s else s

/-- The indicator that a note sets. -/
def noted (n : Note) (s : State) : Bool :=
  match n with
  | .inputMismatch => s.gInputMismatch
  | .transferOverwrite => s.gTransferOverwrite
  | .malformedReceive => s.gMalformedReceive
  | .rxLost => s.gRxLost
  | .spuriousTx => s.gSpuriousTx

/-- The cursor's register encoding: 0 = IDLE, 1 = ADDR_SENT, 2 = DONE (R97, R30). -/
def txIndexBits : TxIndex → BitVec 2
  | .idle => 0#2
  | .addrSent => 1#2
  | .done => 2#2

end Sys2Proof.Machine
end

