-- ==== Sys2Proof/Machine/Ops.lean ====
section
/-! DEFINITION. The shared operations on the state. Every operation of the block is one atomic step (R68); a next state is
built by these, and a step is refused only through the guards at the end of the file.

TAKING AN INTERRUPT has no operation of its own: it saves nothing, switches no mode, changes no mask and goes to no
address; the operation it enables runs as one atomic step (R252), and nothing is restored after it (R254). The silent
error classes go through `note` (Flags.lean). -/

namespace Sys2Proof.Machine

/-- `emit E`: append to the output trace (R12, R48). -/
def emit (e : OutEvent) (s : State) : State := { s with out := s.out ++ [e] }

/-- `emit Start(a)`: the PHY is handed the address byte (R70, R171). -/
def emitStart (a : Byte) (s : State) : State := { emit (.start a) s with phyPending := s.phyPending + 1 }

/-- `emit LoadTx(b)`: the PHY is handed the payload byte (R70, R171). -/
def emitLoadTx (b : Byte) (s : State) : State := { emit (.loadTx b) s with phyPending := s.phyPending + 1 }

/-- `emit Stop`, which gives the PHY no byte (R171). -/
def emitStop (s : State) : State := emit .stop s

/-- The PHY reports one byte as transmitted (R171). -/
def reportSent (s : State) : State := { s with phyPending := s.phyPending - 1 }

/-- Load the frame buffer, both bytes in one step (R21, R68). -/
def loadFrame (a b : Byte) (s : State) : State := { s with txAddr := a, txPayload := b }

/-- Load the frame buffer and trigger a start condition; the cursor goes to ADDR_SENT (R162). -/
def startFrame (a b : Byte) (s : State) : State :=
  { emitStart a (loadFrame a b s) with txIndex := .addrSent }

/-- `BEGIN_SEND` while the address byte is in transit, by `OVERWRITE_POLICY` (R163, R175). -/
def overwriteFrame (p : OverwritePolicy) (a b : Byte) (s : State) : State :=
  match p with
  | .bufferOnly => note .transferOverwrite (loadFrame a b s)
  | .restart => note .transferOverwrite (emitStart a (loadFrame a b s))
  | .ignore => s

/-- A received byte lands in the mailbox, unconditionally; a byte still waiting there is lost (R71, R168). -/
def landByte (b : Byte) (s : State) : State :=
  { noteIf s.rxFull .rxLost s with rxByte := b, rxFull := true }

/-- The byte in the mailbox is taken: the flag is cleared, the byte stays (R69, R169). -/
def emptyMailbox (s : State) : State := { s with rxFull := false }

/-- The activity timer is cleared; the LED is not touched (R223, R227). -/
def clearIdle (s : State) : State := { s with idleTicks := 0 }

/-- A scan ends with no key: all rows high, `key_valid` cleared (R123). -/
def finishNoKey (s : State) : State :=
  emit (.scanDone none) { s with scan := .idle, rowN := rowsHigh, keyValid := false }

/-- A scan ends with the key character `k`: all rows high, the result latched (R125). -/
def finishKey (k : Byte) (s : State) : State :=
  emit (.scanDone (some k)) { s with scan := .idle, rowN := rowsHigh, keyValid := true, keyChar := k }

/-- Drive row `r` low and wait for its sample (R121, R123). -/
def probeRow (r : Fin 4) (s : State) : State := { s with scan := .probe r, rowN := oneCold r }

/-- What `CMD_U` does (R207). -/
def applyUnlock (s : State) : State := { s with unlocked := true }

/-- What `CMD_DIGIT p` does: nothing while locked (R208, R103). -/
def applyDigit (p : BitVec 3) (s : State) : State :=
  if s.unlocked then emit (.render p) { s with activePattern := p } else s

/-- What `CMD_RESERVED` does (R209, R102). -/
def applyReserved (s : State) : State := note .malformedReceive s

/-- What a command byte does once the dispatcher has observed it (R206). -/
def applyCommand (c : Command) (s : State) : State :=
  match c with
  | .unlock => applyUnlock s
  | .digit p => applyDigit p s
  | .reserved => applyReserved s

/-- The two calls of `SEND_BOTH b`: the LED peripheral first (R109, R191). -/
def bothSends (cfg : Config) (b : Byte) : List SendReq := [⟨cfg.addrLed, b⟩, ⟨cfg.addrLcd, b⟩]

/-- A step of the host, which the blocking scan holds up and nothing else (R131, U14). The order that the host program keeps
between its own steps (R193) is no condition of an operation: it is `hostInTurn` (DEDUCED, safe: assumption 9). -/
def whenHostFree (s s' : State) : Result :=
  if s.scan = .idle then .next s' else .refused .hostInsideScan

/-- The dispatcher may take a step: always where it is interrupt-driven (R210, R256); where it is polled, outside a scan
(R131). -/
def dispatcherFree (cfg : Config) (s : State) : Prop :=
  cfg.dispatchContext = .mainLoop → s.scan = .idle

/-- A step of the dispatcher, in the context it runs in (DESIGN CHOICE, safe: assumption 6). Its activity reset and the command
bytes are steps of the dispatcher too (R205, R206; assumption 7). -/
def whenDispatcherFree (cfg : Config) (s s' : State) : Result :=
  if s.scan = .idle then .next s'
  else match cfg.dispatchContext with
    | .interrupt => .next s'
    | .mainLoop => .refused .hostInsideScan

/-- What is left of `host_todo` after the call `a`, `b`: the call at its head is made and leaves the list; any other call is
the host's own, and what was owed stays owed (R193; for a call out of turn DEDUCED, unsafe: assumption 9). -/
def todoAfter (a b : Byte) : List SendReq → List SendReq
  | [] => []
  | r :: rest => if r = ⟨a, b⟩ then rest else r :: rest

/-- The host makes the call `a`, `b` (R193). -/
def makeCall (a b : Byte) (s : State) : State := { s with hostTodo := todoAfter a b s.hostTodo }

end Sys2Proof.Machine
end

