-- ==== Sys2Proof/Machine/Display.lean ====
section
/-! DEFINITION. The display command dispatcher: `DISPATCH` and the three command bytes (44_display_command_dispatcher.md).
A command byte standing alone as an instruction is the arm of `DISPATCH` that the byte selects, and no more: the mailbox
and the activity timer are `DISPATCH`'s part (R206; DESIGN CHOICE, unsafe: assumption 5). -/

namespace Sys2Proof.Machine

/-- The dispatcher observes the byte: the mailbox is emptied, the activity timer cleared whatever the byte, and the command
carried out, in one step (R206, R211). -/
def dispatchNext (s : State) : State :=
  applyCommand (decodeCommand s.rxByte) (clearIdle (emptyMailbox s))

/-- `DISPATCH` under the parameters `cfg` (R206): enabled while the mailbox is full; as a host step it is also held up by a scan
(R131), as an interrupt-driven one it is not (R210, R256; DESIGN CHOICE, safe: assumption 6). -/
def execDispatchIn (cfg : Config) (s : State) : Result :=
  if s.rxFull then whenDispatcherFree cfg s (dispatchNext s) else .refused .mailboxEmpty

/-- `DISPATCH` (R206). -/
def execDispatch (s : State) : Result := execDispatchIn Config.platform s

/-- `CMD_U` under the parameters `cfg` (R207), a step of the dispatcher. -/
def execCmdUIn (cfg : Config) (s : State) : Result := whenDispatcherFree cfg s (applyUnlock s)

/-- `CMD_U` (R207). -/
def execCmdU (s : State) : Result := execCmdUIn Config.platform s

/-- `CMD_DIGIT p` under the parameters `cfg` (R208), a step of the dispatcher. -/
def execCmdDigitIn (cfg : Config) (p : BitVec 3) (s : State) : Result := whenDispatcherFree cfg s (applyDigit p s)

/-- `CMD_DIGIT p` (R208). -/
def execCmdDigit (p : BitVec 3) (s : State) : Result := execCmdDigitIn Config.platform p s

/-- `CMD_RESERVED` under the parameters `cfg` (R209), a step of the dispatcher. -/
def execCmdReservedIn (cfg : Config) (s : State) : Result := whenDispatcherFree cfg s (applyReserved s)

/-- `CMD_RESERVED` (R209): which byte it is makes no difference. -/
def execCmdReserved (s : State) : Result := execCmdReservedIn Config.platform s

end Sys2Proof.Machine
end

