-- ==== Sys2Proof/Machine/Monitor.lean ====
section
/-! DEFINITION. The activity heartbeat monitor: `TICK` and `ACT_RESET` (45_activity_heartbeat_monitor.md). -/

namespace Sys2Proof.Machine

/-- One tick: the count is incremented first, and the LED is decided by the new count (R221, R222). -/
def tickNext (cfg : Config) (s : State) : State :=
  { s with idleTicks := satInc cfg s.idleTicks, led := ledAfter cfg (satInc cfg s.idleTicks) s.led }

/-- `TICK` under the parameters `cfg` (R221). -/
def execTickIn (cfg : Config) (s : State) : Result := .next (tickNext cfg s)

/-- `TICK` (R221). -/
def execTick (s : State) : Result := execTickIn Config.platform s

/-- `ACT_RESET` under the parameters `cfg` (R223): it is the dispatcher's observation of a byte (R206), enabled always but
that a host inside a scan takes no step (R131, U14; assumption 7). -/
def execActResetIn (cfg : Config) (s : State) : Result := whenDispatcherFree cfg s (clearIdle s)

/-- `ACT_RESET` (R223). -/
def execActReset (s : State) : Result := execActResetIn Config.platform s

end Sys2Proof.Machine
end

