-- ==== Sys2Proof/Machine/Receive.lean ====
section
/-! DEFINITION. The receive half of the bus transfer engine: `RX_EVENT`, `RX_TAKE` and a frame on the wire
(42_bus_transfer_engine.md, R73, R91). -/

namespace Sys2Proof.Machine

/-- `RX_EVENT b` (R168): the byte is stored whatever its value, and the activity timer is not touched. -/
def execRxEvent (b : Byte) (s : State) : Result := .next (landByte b s)

/-- `RX_TAKE` (R169): enabled while the mailbox is full, outside a scan (R131); the byte is the operation's result, held in `takeResult` (DESIGN
CHOICE, safe: assumption 12). -/
def execRxTake (s : State) : Result :=
  if s.rxFull then whenHostFree s { emptyMailbox s with takeResult := some s.rxByte }
  else .refused .mailboxEmpty

/-- A frame on the wire under the parameters `cfg` (R91): the PHY compares the address byte with `OWN_ADDRS`, and the payload
byte of a frame to this node raises "byte received"; the address byte never reaches the mailbox (R73). A frame to
another node changes nothing here (R173, R104). That FRAME as one step is its arrival is DEDUCED (unsafe: assumption 4). -/
def execFrameIn (cfg : Config) (a p : Byte) (s : State) : Result :=
  .next (if ownsAddr cfg a then landByte p s else s)

/-- A frame on the wire (R91, R73). -/
def execFrame (a p : Byte) (s : State) : Result := execFrameIn Config.platform a p s

end Sys2Proof.Machine
end

