-- ==== Sys2Proof/Machine/Rgb.lean ====
section
/-! DEFINITION. The RGB colour mapper: `RGB_REFRESH` (41_rgb_color_mapper.md). -/

namespace Sys2Proof.Machine

/-- The duty values of a colour: the same scaling for all three channels (R152). -/
def dutyOf (cfg : Config) (k : Rgb) : OutEvent :=
  .duty (toDutyCycle k.r cfg.period) (toDutyCycle k.g cfg.period) (toDutyCycle k.b cfg.period)

/-- `RGB_REFRESH` under the parameters `cfg` (R153): enabled outside a scan; it emits and writes no state. -/
def execRgbRefreshIn (cfg : Config) (s : State) : Result :=
  whenHostFree s (emit (dutyOf cfg (colorFor cfg s.lockState)) s)

/-- `RGB_REFRESH` (R153). -/
def execRgbRefresh (s : State) : Result := execRgbRefreshIn Config.platform s

end Sys2Proof.Machine
end

