-- ==== Sys2Proof/Machine/Scanner.lean ====
section
/-! DEFINITION. The keypad scanner: `SCAN_START` and `SCAN_STEP` (40_keypad_scanner.md). -/

namespace Sys2Proof.Machine

/-- `SCAN_START` (R121): enabled exactly while no scan is running. -/
def execScanStart (s : State) : Result :=
  if s.scan = .idle then .next (probeRow 0 s) else .refused .scanRunning

/-- The PROBE case (R123): the lowest column that reads low is the contact found; the settle delay is skipped when it is 0
(R124). -/
def probeNext (cfg : Config) (r : Fin 4) (col : Lines) (s : State) : State :=
  match lowestZero col with
  | some c =>
    if cfg.debounceDelay = 0 then { s with scan := .wait r c 0 }
    else { s with scan := .settle r c cfg.debounceDelay }
  | none => if r = 3 then finishNoKey s else probeRow (r + 1) s

/-- The SETTLE case (R124): the sample is ignored. The count is at least 1 in every reachable state (R29; DESIGN CHOICE, safe:
assumption 10). -/
def settleNext (r c : Fin 4) (n : Nat) (s : State) : State :=
  if n ≤ 1 then { s with scan := .wait r c 0 } else { s with scan := .settle r c (n - 1) }

/-- A closed sample in WAIT: a hold (R125, R129), unless a release timeout is set and this is its last sample
(R133; for a bound of 0 a DESIGN CHOICE, unsafe: assumption 11). -/
def holdNext (cfg : Config) (r c : Fin 4) (held : Nat) (s : State) : State :=
  match cfg.releaseTimeout with
  | none => s
  | some n => if n ≤ held + 1 then finishKey (keyAt cfg r c) s else { s with scan := .wait r c (held + 1) }

/-- The WAIT case (R125): only column `c` is looked at. -/
def waitNext (cfg : Config) (r c : Fin 4) (held : Nat) (col : Lines) (s : State) : State :=
  if columnLow col c then holdNext cfg r c held s else finishKey (keyAt cfg r c) s

/-- One scanner step, by the scanner's state (R122). -/
def scanNext (cfg : Config) (col : Lines) (s : State) : State :=
  match s.scan with
  | .idle => s
  | .probe r => probeNext cfg r col s
  | .settle r c n => settleNext r c n s
  | .wait r c held => waitNext cfg r c held col s

/-- `SCAN_STEP s` under the parameters `cfg` (R122): enabled only while a scan is running. -/
def execScanStepIn (cfg : Config) (col : Lines) (s : State) : Result :=
  if s.scan = .idle then .refused .noScanRunning else .next (scanNext cfg col s)

/-- `SCAN_STEP s` (R122). -/
def execScanStep (col : Lines) (s : State) : Result := execScanStepIn Config.platform col s

end Sys2Proof.Machine
end

