-- ==== Sys2Proof/Machine/Transmit.lean ====
section
/-! DEFINITION. The transmit half of the bus transfer engine: `BEGIN_SEND` and `TX_EVENT` (42_bus_transfer_engine.md). -/

namespace Sys2Proof.Machine

/-- The three arms of `BEGIN_SEND`, by the cursor (R161 to R164, R175). -/
def sendNext (cfg : Config) (a b : Byte) (s : State) : State :=
  match s.txIndex with
  | .idle => startFrame a b s
  | .addrSent => overwriteFrame cfg.overwritePolicy a b s
  | .done => note .transferOverwrite (startFrame a b s)

/-- `BEGIN_SEND a, b` under the parameters `cfg` (R161): enabled always, in every value of `tx_index`, outside a scan (R131). A
call that the host owes leaves `host_todo` (R193). -/
def execBeginSendIn (cfg : Config) (a b : Byte) (s : State) : Result :=
  whenHostFree s (sendNext cfg a b (makeCall a b s))

/-- `BEGIN_SEND a, b` (R161). -/
def execBeginSend (a b : Byte) (s : State) : Result := execBeginSendIn Config.platform a b s

/-- The three arms of `TX_EVENT`, by the cursor (R165, R166, R167). -/
def txNext (s : State) : State :=
  match s.txIndex with
  | .idle => note .spuriousTx s
  | .addrSent => { emitLoadTx s.txPayload s with txIndex := .done }
  | .done => { emitStop s with txIndex := .idle }

/-- `TX_EVENT` (R165): enabled while the PHY has a byte to report (R171; keeping this contract is DEDUCED, unsafe:
assumption 13). -/
def execTxEvent (s : State) : Result :=
  if s.phyPending = 0 then .refused .noByteInPhy else .next (txNext (reportSent s))

end Sys2Proof.Machine
end

