-- ==== Sys2Proof/Machine/Unlock.lean ====
section
/-! DEFINITION. The unlock state machine: `KEY` (43_unlock_state_machine.md). -/

namespace Sys2Proof.Machine

/-- The right character at position `code_index`: one further, or unlocked with the two sends of `'U'` left to the host
(R191). -/
def acceptKey (cfg : Config) (s : State) : State :=
  if s.codeIndex = 3 then
    { s with codeIndex := 0, lockState := .unlocked, hostTodo := bothSends cfg charU }
  else { s with codeIndex := nextCode s.codeIndex, lockState := .entering }

/-- A wrong character: progress goes back to position 0, and the key is discarded (R191, R194). -/
def rejectKey (s : State) : State :=
  note .inputMismatch { s with codeIndex := 0, lockState := .locked }

/-- A key while unlocked is forwarded verbatim to both peripheral addresses (R195). -/
def forwardKey (cfg : Config) (k : Byte) (s : State) : State := { s with hostTodo := bothSends cfg k }

/-- Back to LOCKED at position 0, with nothing sent (R196). -/
def relock (s : State) : State := { s with lockState := .locked, codeIndex := 0 }

/-- A key while unlocked, by `RELOCK_POLICY` (R195, R196). -/
def unlockedKey (cfg : Config) (k : Byte) (s : State) : State :=
  match cfg.relockPolicy with
  | .none => forwardKey cfg k s
  | .key c => if k = c then relock s else forwardKey cfg k s

/-- The transition function (R190, R191). -/
def keyNext (cfg : Config) (k : Byte) (s : State) : State :=
  if s.lockState = .unlocked then unlockedKey cfg k s
  else if k = codeAt cfg s.codeIndex then acceptKey cfg s
  else rejectKey s

/-- `KEY k` under the parameters `cfg` (R191): enabled outside a scan. That a scan ended with `k` before it is not required (DESIGN CHOICE, safe:
assumption 8). -/
def execKeyIn (cfg : Config) (k : Byte) (s : State) : Result := whenHostFree s (keyNext cfg k s)

/-- `KEY k` (R191). -/
def execKey (k : Byte) (s : State) : Result := execKeyIn Config.platform k s

end Sys2Proof.Machine
end

