-- ==== Sys2Proof/Machine/Dispatch.lean ====
section
/-! DEFINITION. What each instruction does: one arm per constructor of `Instr`, each one call of its meaning. -/

namespace Sys2Proof.Machine

def exec (i : Instr) (s : State) : Host.Outcome State Fault Refusal :=
  match i with
  | .scanStart => Sys2Proof.Machine.execScanStart s
  | .scanStep col => Sys2Proof.Machine.execScanStep col s
  | .beginSend a b => Sys2Proof.Machine.execBeginSend a b s
  | .txEvent => Sys2Proof.Machine.execTxEvent s
  | .rxEvent b => Sys2Proof.Machine.execRxEvent b s
  | .rxTake => Sys2Proof.Machine.execRxTake s
  | .tick => Sys2Proof.Machine.execTick s
  | .actReset => Sys2Proof.Machine.execActReset s
  | .dispatch => Sys2Proof.Machine.execDispatch s
  | .key k => Sys2Proof.Machine.execKey k s
  | .rgbRefresh => Sys2Proof.Machine.execRgbRefresh s
  | .cmdU => Sys2Proof.Machine.execCmdU s
  | .cmdDigit p => Sys2Proof.Machine.execCmdDigit p s
  | .cmdReserved _ => Sys2Proof.Machine.execCmdReserved s
  | .frame a p => Sys2Proof.Machine.execFrame a p s

end Sys2Proof.Machine
end

