-- ==== Sys2Proof/Machine/Step.lean ====
section
/-! DEFINITION. One step of a node: the next event of its stimulus trace is taken, decoded and run as one atomic operation
(R9, R18, R68, R108). -/

namespace Sys2Proof.Machine

/-- The state with its stimulus replaced. -/
def State.withStimulus (s : State) (ws : List Word) : State := { s with stimulus := ws }

/-- The state with the word of `nbits` bits `w` as the next event of the stimulus trace: the load of a program from outside
(DESIGN CHOICE, safe: assumption 2). Where no format has that width nothing is placed. -/
def State.withFetchWord (s : State) (nbits w : Nat) : State :=
  match Word.ofBits nbits w with
  | some x => s.withStimulus (x :: s.stimulus)
  | none => s

/-- One step. A word that decodes to nothing is never run as some other operation (R105). With no event due no agent has an
enabled step and nothing changes (R9, R276; DESIGN CHOICE, safe: assumption 3). -/
def step (s : State) : Host.Outcome State Fault Refusal :=
  match s.stimulus with
  | [] => .next s
  | w :: rest =>
    match decode w with
    | .ok i => exec i (s.withStimulus rest)
    | .error e => .refused (.invalidWord e)

end Sys2Proof.Machine
end

