-- ==== Sys2Proof/Machine/Agents.lean ====
section
/-! DEFINITION. The operations under any parameters, and who runs them: the agents (R9, R90), the two execution contexts
(R256), the order of the host program (R193) and the sub-blocks each node uses (R264). `exec` is `execIn` at `Config.platform`. -/

namespace Sys2Proof.Machine

/-- What each instruction does on a node with the parameters `cfg`. -/
def execIn (cfg : Config) (i : Instr) (s : State) : Result :=
  match i with
  | .scanStart => execScanStart s
  | .scanStep col => execScanStepIn cfg col s
  | .beginSend a b => execBeginSendIn cfg a b s
  | .txEvent => execTxEvent s
  | .rxEvent b => execRxEvent b s
  | .rxTake => execRxTake s
  | .tick => execTickIn cfg s
  | .actReset => execActResetIn cfg s
  | .dispatch => execDispatchIn cfg s
  | .key k => execKeyIn cfg k s
  | .rgbRefresh => execRgbRefreshIn cfg s
  | .cmdU => execCmdUIn cfg s
  | .cmdDigit p => execCmdDigitIn cfg p s
  | .cmdReserved _ => execCmdReservedIn cfg s
  | .frame a p => execFrameIn cfg a p s

/-- A list of operations, run in order; the first that is not enabled makes the whole list refused (R108). -/
def runIn (cfg : Config) : List Instr → State → Result
  | [], s => .next s
  | i :: rest, s =>
    match execIn cfg i s with
    | .next t => runIn cfg rest t
    | .fault r => .fault r
    | .refused r => .refused r

/-- The agents that take steps (R9). The environment takes none: it chooses the operands and the order. -/
inductive Agent where
  | scanner
  | transmitHalf
  | receiveHalf
  | heartbeatMonitor
  | host
deriving DecidableEq, Repr

/-- The agent that takes an operation's step (R9, R90). A command byte is carried out by the dispatcher, which is host
software (R205); a frame on the wire reaches the receive half (R73). -/
def agentOf : Instr → Agent
  | .scanStart | .beginSend _ _ | .rxTake | .actReset | .dispatch | .key _ | .rgbRefresh => .host
  | .cmdU | .cmdDigit _ | .cmdReserved _ => .host
  | .scanStep _ => .scanner
  | .txEvent => .transmitHalf
  | .rxEvent _ | .frame _ _ => .receiveHalf
  | .tick => .heartbeatMonitor

/-- The operation runs in the interrupt context, whatever the design choices (R256). -/
def interruptStep : Instr → Bool
  | .txEvent | .rxEvent _ | .tick | .frame _ _ => true
  | .scanStart | .scanStep _ | .beginSend _ _ | .rxTake | .actReset | .dispatch | .key _ | .rgbRefresh
  | .cmdU | .cmdDigit _ | .cmdReserved _ => false

/-- An operation of the host program, which the blocking scan holds up (R131). The steps of the dispatcher (`DISPATCH`, its
activity reset, its command bytes) are such where it is polled. -/
def hostStep (cfg : Config) : Instr → Bool
  | .scanStart | .beginSend _ _ | .rxTake | .key _ | .rgbRefresh => true
  | .dispatch | .actReset | .cmdU | .cmdDigit _ | .cmdReserved _ => cfg.dispatchContext == .mainLoop
  | .scanStep _ | .txEvent | .rxEvent _ | .tick | .frame _ _ => false

/-- The operation may come next on a node that runs the reference host: while `host_todo` holds a call, the host's next step is
the call at its head and no other, and the other agents' steps may fall anywhere (R193). This is the host program's order
and not part of what enables an operation (DEDUCED, safe: assumption 9). -/
def hostInTurn (cfg : Config) (i : Instr) (s : State) : Bool :=
  match s.hostTodo with
  | [] => true
  | r :: _ => !hostStep cfg i || i == .beginSend r.addr r.payload

/-- The operations of the controller node: scanner, transmit half, unlock state machine, RGB mapper (R264). -/
def usedByController : Instr → Bool
  | .scanStart | .scanStep _ | .beginSend _ _ | .txEvent | .key _ | .rgbRefresh => true
  | .rxEvent _ | .rxTake | .tick | .actReset | .dispatch | .cmdU | .cmdDigit _ | .cmdReserved _ | .frame _ _ => false

/-- The operations of the display node but `RX_EVENT`, which only the link brings about: receive half, dispatcher, heartbeat
monitor (R264, R173). -/
def usedByDisplay : Instr → Bool
  | .rxTake | .tick | .actReset | .dispatch => true
  | .scanStart | .scanStep _ | .beginSend _ _ | .txEvent | .rxEvent _ | .key _ | .rgbRefresh | .cmdU | .cmdDigit _
  | .cmdReserved _ | .frame _ _ => false

end Sys2Proof.Machine
end

