-- ==== Sys2Proof/Machine/Link.lean ====
section
/-! DEFINITION. The system of two kinds of node and the link between them (R173, R263, R264): one controller, receiving nodes
each with its own parameters, and deliveries chosen by the environment among those the link rule allows. -/

namespace Sys2Proof.Machine

/-- A byte loaded onto the wire and the addresses of the nodes that may receive it. -/
structure LinkLoad where
  targets : List Byte
  payload : Byte
deriving DecidableEq, Repr

/-- The loads of an output trace, `open'` being the addresses started since the last stop. An undisturbed load has one such
address, the operand of the most recent `Start` (R173). After a further `Start` with no `Stop` between, the owners of
every address involved may receive the load or not (R164, U3; DESIGN CHOICE, unsafe: assumption 17). -/
def linkLoadsFrom (open' : List Byte) : List OutEvent → List LinkLoad
  | [] => []
  | .start a :: rest => linkLoadsFrom (a :: open') rest
  | .loadTx b :: rest => ⟨open', b⟩ :: linkLoadsFrom open' rest
  | .stop :: rest => linkLoadsFrom [] rest
  | .scanDone _ :: rest => linkLoadsFrom open' rest
  | .render _ :: rest => linkLoadsFrom open' rest
  | .duty _ _ _ :: rest => linkLoadsFrom open' rest

/-- The loads of a sender's output trace, in sending order. -/
def linkLoads (out : List OutEvent) : List LinkLoad := linkLoadsFrom [] out

/-- A load that a node with the parameters `cfg` may receive (R73, R173). -/
def loadReaches (cfg : Config) (l : LinkLoad) : Bool := l.targets.any (ownsAddr cfg)

/-- A receiving node: its parameters, its state, how many of the sender's loads lie behind it (delivered here or never to be),
and the bytes delivered so far. -/
structure Receiver where
  params : Config
  node : State
  behind : Nat
  got : List Byte
deriving DecidableEq, Repr

/-- One controller and its receiving nodes; they share no state (R263). `past` is the wire's history before the controller's
last reset: the loads of its earlier runs. Two receivers may own one address (DESIGN CHOICE, safe: assumption 22). -/
structure System where
  params : Config
  past : List LinkLoad
  controller : State
  receivers : List Receiver
deriving DecidableEq, Repr

/-- Every load the controller has put on the wire, in sending order. -/
def System.loads (y : System) : List LinkLoad := y.past ++ linkLoads y.controller.out

/-- A step of the system: a node's own operation, the link delivering the `k`-th load to a receiver, or the power-on reset of
one node (R270, R273). A reset is no operation of a node (R270): it ends the node's run and begins another. -/
inductive SysEvent where
  | controller (i : Instr)
  | receiver (j : Nat) (i : Instr)
  | deliver (j k : Nat)
  | resetController
  | resetReceiver (j : Nat)
deriving DecidableEq, Repr

/-- The delivery of one load to one receiver: each load at most once, in the order of the loads, only to a node that owns an
address of it, at any time after the load; a load never delivered is a bus-level failure (R173, R174). -/
def deliverTo (loads : List LinkLoad) (k : Nat) (r : Receiver) : Option Receiver :=
  match loads[k]? with
  | none => none
  | some l =>
    if r.behind ≤ k ∧ loadReaches r.params l = true then
      match execIn r.params (.rxEvent l.payload) r.node with
      | .next t => some { r with node := t, behind := k + 1, got := r.got ++ [l.payload] }
      | _ => none
    else none

/-- The controller is reset: it starts afresh and nothing else changes (R273). What it put on the wire before may still arrive,
and its next run opens no stretch of the earlier one (DESIGN CHOICE, unsafe: assumption 21). -/
def restartController (y : System) : System := { y with past := y.loads, controller := State.reset }

/-- A receiver is reset: its node starts afresh; what lies behind it stays behind (R273). -/
def restartReceiver (r : Receiver) : Receiver := { r with node := State.reset }

/-- A receiver's own step. -/
def receiverStep (i : Instr) (r : Receiver) : Option Receiver :=
  if usedByDisplay i then
    match execIn r.params i r.node with
    | .next t => some { r with node := t }
    | _ => none
  else none

/-- One step of the system; `none` where the event is not enabled. The controller runs the reference host, which keeps the order
of R193. -/
def sysStep (y : System) (e : SysEvent) : Option System :=
  match e with
  | .controller i =>
    if usedByController i && hostInTurn y.params i y.controller then
      match execIn y.params i y.controller with
      | .next t => some { y with controller := t }
      | _ => none
    else none
  | .receiver j i =>
    match y.receivers[j]? with
    | none => none
    | some r => (receiverStep i r).map fun r' => { y with receivers := y.receivers.set j r' }
  | .deliver j k =>
    match y.receivers[j]? with
    | none => none
    | some r =>
      (deliverTo y.loads k r).map fun r' => { y with receivers := y.receivers.set j r' }
  | .resetController => some (restartController y)
  | .resetReceiver j =>
    match y.receivers[j]? with
    | none => none
    | some r => some { y with receivers := y.receivers.set j (restartReceiver r) }

/-- The system after reset: every node at its own reset, nothing delivered (R263, R270). Any list of receivers is a system, one
in which two receivers own the same address too: R61 has an address name at most one mailbox, R173 speaks of each node
that owns it, and no constraint on `OWN_ADDRS` is given (DESIGN CHOICE, safe: assumption 22). -/
def sysReset (params : Config) (receivers : List Config) : System where
  params := params
  past := []
  controller := State.reset
  receivers := receivers.map fun c => ⟨c, State.reset, 0, []⟩

end Sys2Proof.Machine
end

