-- ==== Sys2Proof/Machine/Trace.lean ====
section
/-! DEFINITION. Traces (R105, R108, R276), the pseudo-operations (R109 to R112) and one iteration of each node's main loop
(R199, R214). -/

namespace Sys2Proof.Machine

/-- A state a well-formed trace may end in: scanner idle, no send owed (R276). -/
def endsWell (s : State) : Bool := s.scan == .idle && s.hostTodo == []

/-- The operations of a trace; one invalid word refuses the trace as a whole (R105). -/
def decodeAll : List Word → Except DecodeError (List Instr)
  | [] => .ok []
  | w :: rest =>
    match decode w with
    | .error e => .error e
    | .ok i =>
      match decodeAll rest with
      | .error e => .error e
      | .ok is => .ok (i :: is)

/-- A list of operations, run in order as a trace of the host program (R108, R193). -/
def runHost (cfg : Config) : List Instr → State → Result
  | [], s => .next s
  | i :: rest, s =>
    if hostInTurn cfg i s then
      match execIn cfg i s with
      | .next t => runHost cfg rest t
      | .fault r => .fault r
      | .refused r => .refused r
    else .refused .sendsPending

/-- A trace run from a start state on a node with the parameters `cfg` (R108). -/
def runTrace (cfg : Config) (ws : List Word) (s : State) : Result :=
  match decodeAll ws with
  | .error e => .refused (.invalidWord e)
  | .ok is =>
    match runHost cfg is s with
    | .next t => if endsWell t then .next t else .refused .illFormedEnd
    | .fault r => .fault r
    | .refused r => .refused r

/-- The `BEGIN_SEND`s of a to-do list. -/
def sendsOf (todo : List SendReq) : List Instr := todo.map fun r => .beginSend r.addr r.payload

/-- `SEND_BOTH b` (R109). -/
def sendBoth (cfg : Config) (b : Byte) : List Instr := sendsOf (bothSends cfg b)

/-- `SCAN_NONE` (R110). -/
def scanNone : List Instr := .scanStart :: List.replicate 4 (.scanStep 0b1111#4)

/-- `PRESS r, c, w` (R111). -/
def press (cfg : Config) (r c : Fin 4) (w : Nat) : List Instr :=
  .scanStart :: (List.replicate r.val (.scanStep 0b1111#4)
    ++ .scanStep (oneCold c) :: (List.replicate cfg.debounceDelay (.scanStep (oneCold c))
      ++ (List.replicate w (.scanStep (oneCold c)) ++ [.scanStep 0b1111#4])))

/-- `FRAME_OK a, b` (R112). -/
def frameOk (a b : Byte) : List Instr := [.beginSend a b, .txEvent, .txEvent]

/-- `n` scanner steps against contacts that do not change: each sample is the one the keypad gives for the row drive that the
previous step left (R63, R122). -/
def scanFixed (cfg : Config) (closed : Fin 4 → Fin 4 → Bool) : Nat → State → Result
  | 0, s => .next s
  | n + 1, s =>
    match execIn cfg (.scanStep (sampleCols s.rowN closed)) s with
    | .next t => scanFixed cfg closed n t
    | .fault r => .fault r
    | .refused r => .refused r

/-- What the controller's main loop does after a scan that ended with `k`, the state being the one the scan left: the key and
its sends, then the colour refresh (R199, R192). -/
def afterScan (cfg : Config) (k : Option Byte) (s : State) : List Instr :=
  match k with
  | none => [.rgbRefresh]
  | some c => .key c :: (sendsOf (keyNext cfg c s).hostTodo ++ [.rgbRefresh])

/-- What the display node's polled main loop does in one iteration (R214). -/
def displayIteration (s : State) : List Instr := if s.rxFull then [.dispatch] else []

end Sys2Proof.Machine
end

