-- ==== Sys2Proof/Safety.lean ====
section
/-! DEFINITION. What counts as a good state and a good run: the invariants of a node, of its transmit trace and of the
system, in the terms the statements use. -/

namespace Sys2Proof.Machine

/-- `row_n` is what the scanner's state says: all high while idle, else the one row low (R130). -/
def rowsFollowScan (s : State) : Prop :=
  match s.scan with
  | .idle => s.rowN = rowsHigh
  | .probe r => s.rowN = oneCold r
  | .settle r _ _ => s.rowN = oneCold r
  | .wait r _ _ => s.rowN = oneCold r

/-- The counts in `scan` are in range: the settle count (R29), and the count of closed samples (R133). -/
def scanCountsOk (cfg : Config) (s : State) : Prop :=
  match s.scan with
  | .settle _ _ n => 1 ≤ n ∧ n ≤ cfg.debounceDelay
  | .wait _ _ held =>
    match cfg.releaseTimeout with
    | none => held = 0
    | some n => held = 0 ∨ held < n
  | _ => True

/-- `code_index` is 0 exactly when the controller is not ENTERING (R197). -/
def cursorFollowsLock (s : State) : Prop := s.codeIndex ≠ 0 ↔ s.lockState = .entering

/-- A good state of a node. -/
structure NodeInv (cfg : Config) (s : State) : Prop where
  /-- R130. -/
  rows : rowsFollowScan s
  /-- R29, R133. -/
  counts : scanCountsOk cfg s
  /-- R39, R222. -/
  idle : s.idleTicks ≤ cfg.idleMax
  /-- R197. -/
  cursor : cursorFollowsLock s
  /-- At most two calls are owed (R42). -/
  todo : s.hostTodo.length ≤ 2
  /-- While a transfer is in flight the PHY holds a byte (R171). -/
  phy : s.txIndex ≠ .idle → 1 ≤ s.phyPending
  /-- `activePattern` is only updated, and a pattern only rendered, while unlocked (R43, R208). -/
  pattern : s.unlocked = false → s.activePattern = 0#3 ∧ ∀ p, OutEvent.render p ∉ s.out

/-- No send is owed while the host is inside a scan: what the order of the reference host comes to (R193, R199). -/
def noSendOwedInScan (s : State) : Prop := s.scan ≠ .idle → s.hostTodo = []

/-- The transmit half's output order as an automaton on the cursor (R75, R172, R178): a `LoadTx` only after a `Start` with
no `Stop` between, a `Stop` only after a `LoadTx`; a second `Start` in the address phase only under `restart`. -/
def phaseStep (restart : Bool) (p : TxIndex) (e : OutEvent) : Option TxIndex :=
  match e with
  | .start _ => if p = .addrSent ∧ restart = false then none else some .addrSent
  | .loadTx _ => if p = .addrSent then some .done else none
  | .stop => if p = .done then some .idle else none
  | .scanDone _ | .render _ | .duty _ _ _ => some p

/-- Where the automaton stands after an output trace; `none` if the trace breaks the order. -/
def phaseOf (restart : Bool) (es : List OutEvent) : Option TxIndex :=
  es.foldlM (phaseStep restart) .idle

/-- The output trace keeps the order, and the cursor is where the order puts it. -/
def TxOrder (cfg : Config) (s : State) : Prop :=
  phaseOf (cfg.overwritePolicy == .restart) s.out = some s.txIndex

/-- The bytes handed to the PHY by an output trace (R171). -/
def handed (es : List OutEvent) : Nat :=
  es.countP fun e => match e with | .start _ => true | .loadTx _ => true | _ => false

/-- No frame was dropped and no byte lost so far (R49). -/
def clean (s : State) : Bool :=
  !(s.gInputMismatch || s.gTransferOverwrite || s.gMalformedReceive || s.gRxLost || s.gSpuriousTx)

/-- The state with the five ghost indicators cleared (R49). -/
def eraseGhosts (s : State) : State :=
  { s with
    gInputMismatch := false
    gTransferOverwrite := false
    gMalformedReceive := false
    gRxLost := false
    gSpuriousTx := false }

/-- What an operation answers, with the ghost indicators of a next state cleared. -/
def eraseResult : Result → Result
  | .next t => .next (eraseGhosts t)
  | .fault r => .fault r
  | .refused r => .refused r

/-- The heartbeat monitor with an unbounded counter (R222): `true` is a tick, `false` an activity reset; count and LED. -/
def freeMonitor (threshold : Nat) : List Bool → Nat × Bool → Nat × Bool
  | [], m => m
  | true :: rest, (n, led) => freeMonitor threshold rest (n + 1, if threshold ≤ n + 1 then !led else true)
  | false :: rest, (_, led) => freeMonitor threshold rest (0, led)

/-- The monitor's operation for an entry of such a list. -/
def monitorOp (b : Bool) : Instr := if b then .tick else .actReset

/-- The payloads, in sending order, of the first `n` loads that may reach a node (R77, R173). -/
def payloadsFor (cfg : Config) (loads : List LinkLoad) (n : Nat) : List Byte :=
  ((loads.take n).filter (loadReaches cfg)).map LinkLoad.payload

/-- A receiver has seen only bytes sent to it, in sending order, and what waits in its mailbox is one of them (R77). -/
def receiverOk (loads : List LinkLoad) (r : Receiver) : Prop :=
  r.behind ≤ loads.length ∧ r.got.Sublist (payloadsFor r.params loads r.behind) ∧
    (r.node.rxFull = true → r.got.getLast? = some r.node.rxByte)

/-- A good state of the system. -/
def SysInv (y : System) : Prop := ∀ r ∈ y.receivers, receiverOk y.loads r

end Sys2Proof.Machine
end

