-- ==== Sys2Proof/Certificates/Slice0/Obligations.lean ====
section
/-! DEFINITION. The statements for the provers. `exec` and `step` are the machine at `Config.platform`, whose parameters are
opaque; `execIn` and `runIn` are the same operations at given parameters, and a statement about them holds for all. -/

open Sys2Proof Sys2Proof.Machine

/-! Words and instructions. -/

/-- Words written out bit by bit from the tables of R91, R94 and R96 decode to what they stand for; the vectors are V-ENC-1 to
V-ENC-4 of 95_test_vectors.md. -/
def Obligations.SampleWordsDecode : Prop :=
  decode (.evw 0b000100000000000000000000#24) = .ok .scanStart ∧
  decode (.evw 0b001000000000000000001011#24) = .ok (.scanStep 0b1011#4) ∧
  decode (.evw 0b001100000100000001010101#24) = .ok (.beginSend 0x40#8 0x55#8) ∧
  decode (.evw 0b010100000000000011111111#24) = .ok (.rxEvent 0xFF#8) ∧
  decode (.evw 0b101000000000000001000100#24) = .ok (.key 0x44#8) ∧
  decode (.cmd 0b01010101#8) = .ok .cmdU ∧
  decode (.cmd 0b00110011#8) = .ok (.cmdDigit 0b011#3) ∧
  decode (.cmd 0b00111000#8) = .ok (.cmdReserved 0x38#8) ∧
  decode (.frame 0b0100001000110011#16) = .ok (.frame 0x42#8 0x33#8)

/-- A step runs the next word of the stimulus as one operation; a word that decodes to nothing is refused, and with no word
nothing changes. That the environment's events stand in a list of the state is the model's choice (assumption 2); so is
the step that changes nothing (assumption 3). -/
def Obligations.StepRunsTheDecodedInstruction : Prop :=
  (∀ (s : State) (w : Word) (rest : List Word) (i : Instr),
    s.stimulus = w :: rest → decode w = .ok i → step s = exec i { s with stimulus := rest }) ∧
  (∀ (s : State) (w : Word) (rest : List Word) (e : DecodeError),
    s.stimulus = w :: rest → decode w = .error e → step s = .refused (.invalidWord e)) ∧
  (∀ s : State, s.stimulus = [] → step s = .next s)

/-- Every well-formed instruction is read back from the word the encoder writes (R91, R94, R96). -/
def Obligations.DecodeOfEncode : Prop := ∀ i : Instr, i.WellFormed → decode (encode i) = .ok i

/-- Every word that decodes is the word of the well-formed instruction it decodes to: no bit of a word is dropped. -/
def Obligations.EncodeOfDecode : Prop :=
  ∀ (w : Word) (i : Instr), decode w = .ok i → i.WellFormed ∧ encode i = w

/-- An event word is accepted exactly when it lies in a row of the table, and then only in the row of the instruction it
decodes to (R96, R105). -/
def Obligations.EventWordsFollowTheTable : Prop :=
  (∀ w : BitVec 24, (∃ i, decode (.evw w) = .ok i) ↔ ∃ r ∈ evwRows, rowHolds r (.evw w) = true) ∧
  (∀ (w : BitVec 24) (i : Instr) (r : Row), decode (.evw w) = .ok i → r ∈ evwRows →
    (rowHolds r (.evw w) = true ↔ r.mnemonic = mnemonicOf i))

/-- R98: a byte `b` with `b[7:3] = 0b00110` is a digit with the index `b[2:0]`, equally `b - 0x30`; 0x38 and 0x39 are
reserved. -/
def Obligations.PatternIndexOfACommandByte : Prop :=
  (∀ b : Byte, b.toNat / 8 = 0b00110 →
    ∃ p : BitVec 3, decodeCommand b = .digit p ∧ p.toNat = b.toNat % 8 ∧ p.toNat = b.toNat - 0x30) ∧
  decodeCommand 0x38#8 = .reserved ∧ decodeCommand 0x39#8 = .reserved

/-- A trace with an invalid word is refused as a whole (R105), and a trace that runs to its end leaves the scanner idle and no
send owed (R276). -/
def Obligations.TracesAreRefusedWhole : Prop :=
  (∀ (cfg : Config) (ws : List Word) (s : State) (w : Word) (e : DecodeError), w ∈ ws → decode w = .error e →
    ∃ e', runTrace cfg ws s = .refused (.invalidWord e')) ∧
  (∀ (cfg : Config) (ws : List Word) (s t : State), runTrace cfg ws s = .next t → t.scan = .idle ∧ t.hostTodo = [])

/-! Reset. -/

/-- R51: every element to which the table gives a value has it after reset. -/
def Obligations.ResetValues : Prop :=
  State.reset.scan = .idle ∧ State.reset.rowN = 0b1111#4 ∧ State.reset.keyValid = false ∧
  State.reset.txIndex = .idle ∧ State.reset.rxFull = false ∧ State.reset.idleTicks = 0 ∧ State.reset.led = true ∧
  State.reset.lockState = .locked ∧ State.reset.codeIndex = 0 ∧ State.reset.unlocked = false ∧
  State.reset.activePattern = 0#3 ∧ State.reset.hostTodo = [] ∧ State.reset.out = [] ∧
  (∀ n : Note, noted n State.reset = false) ∧ State.reset.phyPending = 0

/-! The keypad scanner. -/

/-- R121: with no scan running `SCAN_START` drives row 0 low and nothing else changes; with a scan running it is refused. -/
def Obligations.ScanStartBeginsAScan : Prop :=
  (∀ s : State, s.scan = .idle →
    exec .scanStart s = .next { s with scan := .probe 0, rowN := 0b1110#4 }) ∧
  (∀ s : State, s.scan ≠ .idle → exec .scanStart s = .refused .scanRunning)

/-- R122, R123: a probe takes the lowest column that reads low; with none it goes to the next row, or ends the scan after
row 3. With no scan running `SCAN_STEP` is refused. -/
def Obligations.ScanStepProbesARow : Prop :=
  (∀ (s : State) (r c : Fin 4) (col : Lines), s.scan = .probe r → col.getLsbD c.val = false →
    (∀ d : Fin 4, d < c → col.getLsbD d.val = true) →
    exec (.scanStep col) s = .next { s with
      scan := if Config.platform.debounceDelay = 0 then .wait r c 0
        else .settle r c Config.platform.debounceDelay }) ∧
  (∀ (s : State) (r r' : Fin 4), s.scan = .probe r → r'.val = r.val + 1 →
    exec (.scanStep 0b1111#4) s = .next { s with scan := .probe r', rowN := ~~~(1#4 <<< r'.val) }) ∧
  (∀ s : State, s.scan = .probe 3 →
    exec (.scanStep 0b1111#4) s = .next { s with
      scan := .idle, rowN := 0b1111#4, keyValid := false, out := s.out ++ [.scanDone none] }) ∧
  (∀ (s : State) (col : Lines), s.scan = .idle → exec (.scanStep col) s = .refused .noScanRunning)

/-- R122, R124: a settle step changes nothing but the count, whatever the sample. -/
def Obligations.ScanStepSettles : Prop :=
  ∀ (s : State) (r c : Fin 4) (n : Nat) (col : Lines), s.scan = .settle r c n → 1 ≤ n →
    exec (.scanStep col) s = .next { s with scan := if n = 1 then .wait r c 0 else .settle r c (n - 1) }

/-- R125: in WAIT an open sample of column `c` completes the scan with the key; a closed one holds. With a release timeout a
closed sample is counted, and the one that brings the count to the bound completes (R133); that a bound of 0 completes
at the first closed sample is the model's choice (assumption 11). The other columns play no part. -/
def Obligations.ScanStepWaitsForRelease : Prop :=
  ∀ (s : State) (r c : Fin 4) (held : Nat) (col : Lines), s.scan = .wait r c held →
    let k := Config.platform.keymap[4 * r.val + c.val]
    let completed : State := { s with
      scan := .idle, rowN := 0b1111#4, keyValid := true, keyChar := k, out := s.out ++ [.scanDone (some k)] }
    (col.getLsbD c.val = true → exec (.scanStep col) s = .next completed) ∧
    (col.getLsbD c.val = false → exec (.scanStep col) s = .next
      (match Config.platform.releaseTimeout with
        | none => s
        | some n => if n ≤ held + 1 then completed else { s with scan := .wait r c (held + 1) }))

/-- R124: after the contact is found the scanner spends exactly `DEBOUNCE_DELAY` steps in SETTLE, whatever it samples, and
changes nothing but its count; with a delay of 0 it goes to WAIT at once. -/
def Obligations.SettleLastsTheDebounceDelay : Prop :=
  ∀ (cfg : Config) (s : State) (r c : Fin 4) (col : Lines) (cols : List Lines), s.scan = .probe r →
    lowestZero col = some c → cols.length ≤ cfg.debounceDelay →
    runIn cfg (.scanStep col :: cols.map .scanStep) s = .next { s with
      scan := if cols.length < cfg.debounceDelay then .settle r c (cfg.debounceDelay - cols.length)
        else .wait r c 0 }

/-- R110: `SCAN_NONE` ends with `ScanDone(none)`. -/
def Obligations.ScanNoneFindsNoKey : Prop :=
  ∀ (cfg : Config) (s : State), s.scan = .idle →
    scanNone = .scanStart :: List.replicate 4 (.scanStep 0b1111#4) ∧
    runIn cfg scanNone s = .next { s with
      rowN := 0b1111#4, keyValid := false, out := s.out ++ [.scanDone none] }

/-- R111: `PRESS r, c, w` ends with `ScanDone(KEYMAP[r][c])`, for every position, settle delay and hold, where the release wait
is unbounded. -/
def Obligations.PressYieldsItsKeyOnce : Prop :=
  ∀ (cfg : Config) (r c : Fin 4) (w : Nat) (s : State), cfg.releaseTimeout = none → s.scan = .idle →
    runIn cfg (press cfg r c w) s = .next { s with
      rowN := 0b1111#4, keyValid := true, keyChar := keyAt cfg r c,
      out := s.out ++ [.scanDone (some (keyAt cfg r c))] }

/-- R129, R133: a key held down holds the scan for ever without a release timeout; with a timeout of `n` closed samples (`n ≥ 1`;
0 is assumption 11) the first `n - 1` of them hold and the last ends the scan as a release does. -/
def Obligations.HeldKeyEndsOnlyAtTheTimeout : Prop :=
  ∀ (cfg : Config) (s : State) (r c : Fin 4) (cols : List Lines), s.scan = .wait r c 0 →
    (∀ col ∈ cols, col.getLsbD c.val = false) →
    (cfg.releaseTimeout = none → runIn cfg (cols.map .scanStep) s = .next s) ∧
    (∀ n, cfg.releaseTimeout = some n → cols.length < n →
      runIn cfg (cols.map .scanStep) s = .next { s with scan := .wait r c cols.length }) ∧
    (∀ n, cfg.releaseTimeout = some n → 1 ≤ n → cols.length = n →
      runIn cfg (cols.map .scanStep) s = .next { s with
        scan := .idle, rowN := 0b1111#4, keyValid := true, keyChar := keyAt cfg r c,
        out := s.out ++ [.scanDone (some (keyAt cfg r c))] })

/-- R126: against contacts that do not change, a scan returns the key of the closed contact with the least `4*r + c`, or no key
if none is closed; the derived function `scanResult` says the same. -/
def Obligations.ScanReturnsTheFirstContact : Prop :=
  ∀ (cfg : Config) (closed : Fin 4 → Fin 4 → Bool) (s t : State), execIn cfg .scanStart s = .next t →
    ((∀ r c, closed r c = false) →
      scanResult cfg closed = none ∧
      scanFixed cfg closed 4 t = .next { s with
        rowN := 0b1111#4, keyValid := false, out := s.out ++ [.scanDone none] }) ∧
    (∀ r c : Fin 4, closed r c = true →
      (∀ r' c' : Fin 4, closed r' c' = true → 4 * r.val + c.val ≤ 4 * r'.val + c'.val) →
      scanResult cfg closed = some (keyAt cfg r c) ∧
      ∃ u, scanFixed cfg closed (r.val + 1 + cfg.debounceDelay) t = .next u ∧ u.scan = .wait r c 0 ∧
        ∀ col : Lines, col.getLsbD c.val = true →
          execIn cfg (.scanStep col) u = .next { s with
            rowN := 0b1111#4, keyValid := true, keyChar := keyAt cfg r c,
            out := s.out ++ [.scanDone (some (keyAt cfg r c))] })

/-- R130: in every state a step reaches from a state where it holds, `row_n` is `0b1111` while the scanner is idle and
one-cold at the scanner's row otherwise; it holds after reset; and with all rows high every column reads 1. -/
def Obligations.RowDriveFollowsTheScanner : Prop :=
  rowsFollowScan State.reset ∧
  (∀ s t : State, rowsFollowScan s → step s = .next t → rowsFollowScan t) ∧
  (∀ closed : Fin 4 → Fin 4 → Bool, sampleCols 0b1111#4 closed = 0b1111#4)

/-- R131: inside a scan every host operation (`SCAN_START`, `BEGIN_SEND`, `RX_TAKE`, `KEY`, `RGB_REFRESH`, and the polled
dispatcher's `DISPATCH`, `ACT_RESET` and command bytes) is turned away, and the interrupt-driven operations stay
enabled. That the dispatcher's context is a parameter is the model's choice (assumption 6), and so is that the activity
reset and the command bytes share it (assumption 7). -/
def Obligations.ScanBlocksTheHostOnly : Prop :=
  (∀ (cfg : Config) (i : Instr) (s : State), s.scan ≠ .idle → hostStep cfg i = true →
    ∃ r, execIn cfg i s = .refused r) ∧
  (∀ (cfg : Config) (s : State), s.scan ≠ .idle →
    (∀ b, ∃ t, execIn cfg (.rxEvent b) s = .next t ∧ t.scan = s.scan) ∧
    (∃ t, execIn cfg .tick s = .next t ∧ t.scan = s.scan) ∧
    (s.phyPending ≠ 0 → ∃ t, execIn cfg .txEvent s = .next t ∧ t.scan = s.scan))

/-! The transmit half. -/

/-- R161 to R164, R175: what `BEGIN_SEND` does in each value of `tx_index`, outside a scan, whatever the host owes. That a call
takes its own entry from the head of the to-do list, and a call that is not at the head takes none, is the model's reading
of R193 (assumption 9). -/
def Obligations.BeginSendByCursor : Prop :=
  ∀ (s : State) (a b : Byte), s.scan = .idle →
    let called : State := { s with
      hostTodo := if s.hostTodo.head? = some ⟨a, b⟩ then s.hostTodo.tail else s.hostTodo }
    let loaded : State := { called with txAddr := a, txPayload := b }
    let started : State := { loaded with
      txIndex := .addrSent, out := s.out ++ [.start a], phyPending := s.phyPending + 1 }
    (s.txIndex = .idle → exec (.beginSend a b) s = .next started) ∧
    (s.txIndex = .done → exec (.beginSend a b) s = .next { started with gTransferOverwrite := true }) ∧
    (s.txIndex = .addrSent → exec (.beginSend a b) s = .next
      (match Config.platform.overwritePolicy with
        | .bufferOnly => { loaded with gTransferOverwrite := true }
        | .restart => { started with gTransferOverwrite := true }
        | .ignore => called))

/-- `BEGIN_SEND` is turned away inside a scan (R131) and nowhere else (R161). A trace of the host program goes on with it, while
another send is due, nowhere: the order of R193 (assumption 9), which refuses the trace and not the operation. -/
def Obligations.BeginSendTurnedAway : Prop :=
  (∀ (s : State) (a b : Byte), s.scan ≠ .idle → exec (.beginSend a b) s = .refused .hostInsideScan) ∧
  (∀ (s : State) (a b : Byte), s.scan = .idle → ∃ t, exec (.beginSend a b) s = .next t) ∧
  (∀ (cfg : Config) (s : State) (a b : Byte) (r : SendReq) (rest : List SendReq) (is : List Instr),
    s.hostTodo = r :: rest → r ≠ ⟨a, b⟩ → runHost cfg (.beginSend a b :: is) s = .refused .sendsPending)

/-- R165: what `TX_EVENT` does in each value of `tx_index` (R166, R167); it is enabled exactly while the PHY has a byte to report
(R171). -/
def Obligations.TxEventByCursor : Prop :=
  decode (.evw 0x400000#24) = .ok .txEvent ∧
  (∀ s : State, s.phyPending ≠ 0 → exec .txEvent s = .next
    (match s.txIndex with
      | .idle => { s with phyPending := s.phyPending - 1, gSpuriousTx := true }
      | .addrSent => { s with txIndex := .done, out := s.out ++ [.loadTx s.txPayload] }
      | .done => { s with txIndex := .idle, out := s.out ++ [.stop], phyPending := s.phyPending - 1 })) ∧
  (∀ s : State, s.phyPending = 0 → exec .txEvent s = .refused .noByteInPhy)

/-- R112: an undisturbed frame, seen from the sender. Nothing else changes, where the host owes no send. -/
def Obligations.UndisturbedFrame : Prop :=
  ∀ (cfg : Config) (a b : Byte) (s : State), s.scan = .idle → s.txIndex = .idle →
    frameOk a b = [.beginSend a b, .txEvent, .txEvent] ∧
    ∃ t, runIn cfg (frameOk a b) s = .next t ∧ t.txIndex = .idle ∧
      t.out = s.out ++ [.start a, .loadTx b, .stop] ∧
      (s.hostTodo = [] → t = { s with
        txAddr := a, txPayload := b, out := s.out ++ [.start a, .loadTx b, .stop] })

/-- R163: under `buffer_only` a `BEGIN_SEND` in the address phase overwrites the buffer and touches neither the bus nor the
cursor, and the wire carries the hybrid frame of the old address and the new payload. What the calls leave of the host's
to-do list is the model's reading of R193 (assumption 9). -/
def Obligations.HybridFrameOnOverwrite : Prop :=
  ∀ (cfg : Config) (a b a' b' : Byte) (s : State), cfg.overwritePolicy = .bufferOnly → s.scan = .idle →
    s.txIndex = .idle →
    runIn cfg [.beginSend a b, .beginSend a' b'] s = .next { s with
      hostTodo := todoAfter a' b' (todoAfter a b s.hostTodo),
      txAddr := a', txPayload := b', txIndex := .addrSent, out := s.out ++ [.start a],
      phyPending := s.phyPending + 1, gTransferOverwrite := true } ∧
    runIn cfg [.beginSend a b, .beginSend a' b', .txEvent, .txEvent] s = .next { s with
      hostTodo := todoAfter a' b' (todoAfter a b s.hostTodo),
      txAddr := a', txPayload := b', out := s.out ++ [.start a, .loadTx b', .stop], gTransferOverwrite := true }

/-- R177: `SEND_BOTH b` with no event between the calls puts one frame on the wire, to the LED peripheral; with both
`TX_EVENT`s of the first frame between the calls it puts both there. What the calls leave of the host's to-do list is the
model's reading of R193 (assumption 9). -/
def Obligations.PairedSends : Prop :=
  ∀ (cfg : Config) (b : Byte) (s : State), cfg.overwritePolicy = .bufferOnly → s.scan = .idle → s.txIndex = .idle →
    let left := todoAfter cfg.addrLcd b (todoAfter cfg.addrLed b s.hostTodo)
    runIn cfg (sendBoth cfg b ++ [.txEvent, .txEvent]) s = .next { s with
      hostTodo := left,
      txAddr := cfg.addrLcd, txPayload := b, gTransferOverwrite := true,
      out := s.out ++ [.start cfg.addrLed, .loadTx b, .stop] } ∧
    runIn cfg (frameOk cfg.addrLed b ++ frameOk cfg.addrLcd b) s = .next { s with
      hostTodo := left,
      txAddr := cfg.addrLcd, txPayload := b,
      out := s.out ++ [.start cfg.addrLed, .loadTx b, .stop, .start cfg.addrLcd, .loadTx b, .stop] }

/-- R176: no operation takes `tx_index` back to 0 but the `TX_EVENT` of the DONE state. -/
def Obligations.OnlyTxEventFreesTheTransmitter : Prop :=
  ∀ (i : Instr) (s t : State), exec i s = .next t → s.txIndex ≠ .idle → t.txIndex = .idle →
    i = .txEvent ∧ s.txIndex = .done

/-- R178, R75: the output trace keeps `Start`, `LoadTx`, `Stop` in order and the cursor stands where the order puts it, in every
state a step reaches from a state where this holds; a second `Start` in the address phase only under `restart`. -/
def Obligations.TransmitOrderIsKept : Prop :=
  ∀ s t : State, TxOrder Config.platform s → step s = .next t → TxOrder Config.platform t

/-- The order holds after reset. -/
def Obligations.TransmitOrderAtReset : Prop := TxOrder Config.platform State.reset

/-- R171: `phy_pending` goes up by each `Start` and `LoadTx` an operation emits and down by each `TX_EVENT`. -/
def Obligations.PhyPendingCountsBytes : Prop :=
  ∀ (i : Instr) (s t : State), exec i s = .next t →
    t.phyPending + (if i = .txEvent then 1 else 0) + handed s.out = s.phyPending + handed t.out

/-- R281: where `BEGIN_SEND` is issued only with `tx_index = 0`, no operation sets `g_transfer_overwrite`. -/
def Obligations.PollingTheCursorAvoidsOverwrite : Prop :=
  ∀ (i : Instr) (s t : State), exec i s = .next t → (∀ a b, i = .beginSend a b → s.txIndex = .idle) →
    t.gTransferOverwrite = s.gTransferOverwrite

/-- R286: without a `TX_EVENT` a transfer in flight stays in flight, whatever else runs; under `buffer_only` a transmitter in its
address phase stays there, and nothing is handed to the PHY. -/
def Obligations.LostByteSentEventWedges : Prop :=
  ∀ (cfg : Config) (is : List Instr) (s t : State), Instr.txEvent ∉ is → runIn cfg is s = .next t →
    (s.txIndex ≠ .idle → t.txIndex ≠ .idle) ∧
    (cfg.overwritePolicy = .bufferOnly → s.txIndex = .addrSent →
      t.txIndex = .addrSent ∧ handed t.out = handed s.out)

/-! The receive half. -/

/-- R168: `RX_EVENT b` stores the byte whatever the mailbox holds, and notes a byte that was still waiting. -/
def Obligations.RxEventLandsTheByte : Prop :=
  (∀ b : Byte, decode (.evw (0x5000#16 ++ b)) = .ok (.rxEvent b)) ∧
  ∀ (s : State) (b : Byte), exec (.rxEvent b) s = .next { s with
    rxByte := b, rxFull := true, gRxLost := s.gRxLost || s.rxFull }

/-- R169: with a byte in the mailbox and no scan running `RX_TAKE` answers the byte and empties the mailbox, whatever sends the
host owes; on an empty mailbox, or inside a scan, it is refused. The answer stands in the model's
own field `takeResult`. -/
def Obligations.RxTakeEmptiesTheMailbox : Prop :=
  (∀ s : State, s.rxFull = true → s.scan = .idle →
    exec .rxTake s = .next { s with rxFull := false, takeResult := some s.rxByte }) ∧
  (∀ s : State, s.rxFull = true → s.scan ≠ .idle → exec .rxTake s = .refused .hostInsideScan) ∧
  (∀ s : State, s.rxFull = false → exec .rxTake s = .refused .mailboxEmpty)

/-- A frame as one instruction is the frame arriving at this node: the model's choice (assumption 4). As R73 says of a frame on
the wire, its payload byte is received only where its address is in `OWN_ADDRS`, and its address byte never is. -/
def Obligations.FrameReachesItsOwnerOnly : Prop :=
  ∀ (s : State) (a p : Byte), exec (.frame a p) s = .next
    (if a ∈ Config.platform.ownAddrs then { s with rxByte := p, rxFull := true, gRxLost := s.gRxLost || s.rxFull }
      else s)

/-! The heartbeat monitor. -/

/-- R221: the tick increments first, saturating, and decides the LED by the new count. -/
def Obligations.TickCountsAndDrivesTheLed : Prop :=
  decode (.evw 0x700000#24) = .ok .tick ∧
  ∀ s : State,
    let n := if s.idleTicks < 2 ^ Config.platform.idleW - 1 then s.idleTicks + 1 else s.idleTicks
    exec .tick s = .next { s with
      idleTicks := n, led := if n ≥ Config.platform.threshold then !s.led else true }

/-- R223: `ACT_RESET` clears the count alone. It is enabled always, sends owed or not, but that a host inside a scan takes no
step (R131): where the dispatcher is polled it is then turned away, and where it is interrupt-driven nothing holds it up.
That the dispatcher's context decides is the model's choice (assumptions 6 and 7). -/
def Obligations.ActResetClearsTheCount : Prop :=
  decode (.evw 0x800000#24) = .ok .actReset ∧
  (∀ s : State, s.scan = .idle → exec .actReset s = .next { s with idleTicks := 0 }) ∧
  (∀ (cfg : Config) (s : State), cfg.dispatchContext = .interrupt →
    execIn cfg .actReset s = .next { s with idleTicks := 0 }) ∧
  (∀ (cfg : Config) (s : State), cfg.dispatchContext = .mainLoop → s.scan ≠ .idle →
    execIn cfg .actReset s = .refused .hostInsideScan)

/-- R225: after an activity reset the ticks numbered 1 to `THRESHOLD - 1` leave the LED on, tick number `THRESHOLD` turns it dark,
and every later tick toggles it. With `THRESHOLD = 1` the LED must be lit to start with. -/
def Obligations.OnsetOfBlinking : Prop :=
  ∀ (cfg : Config) (s : State) (k : Nat), s.idleTicks = 0 → (s.led = true ∨ 2 ≤ cfg.threshold) → 1 ≤ k →
    ∃ t, runIn cfg (List.replicate k .tick) s = .next t ∧
      t.led = (if k < cfg.threshold then true else decide ((k - cfg.threshold) % 2 = 1))

/-- R222: on every sequence of ticks and activity resets the saturating counter gives the LED that an unbounded counter gives, and
is that counter cut off at its maximum. Where the sequence has a reset, a polled dispatcher must not be held
up by a scan (assumption 7). -/
def Obligations.SaturationIsNotObservable : Prop :=
  ∀ (cfg : Config) (ops : List Bool) (s : State), s.idleTicks ≤ cfg.idleMax →
    (false ∈ ops → dispatcherFree cfg s) →
    ∃ t, runIn cfg (ops.map monitorOp) s = .next t ∧
      t.led = (freeMonitor cfg.threshold ops (s.idleTicks, s.led)).2 ∧
      t.idleTicks = min cfg.idleMax (freeMonitor cfg.threshold ops (s.idleTicks, s.led)).1

/-- R227: an activity reset leaves a dark LED dark, it stays dark whatever runs until the next tick, and that tick finds the
count 1 and turns it on. -/
def Obligations.DarkLedLagsActivity : Prop :=
  ∀ (cfg : Config) (s : State) (is : List Instr) (u : State), 2 ≤ cfg.threshold → s.led = false →
    Instr.tick ∉ is → runIn cfg (.actReset :: is) s = .next u →
    u.led = false ∧ ∃ v, execIn cfg .tick u = .next v ∧ v.idleTicks = 1 ∧ v.led = true

/-- R259: a tick and an observation due together, in both orders. -/
def Obligations.TickAndDispatchInEitherOrder : Prop :=
  ∀ (cfg : Config) (s : State), s.rxFull = true → s.scan = .idle → 2 ≤ cfg.threshold →
    (∃ t, runIn cfg [.tick, .dispatch] s = .next t ∧ t.idleTicks = 0 ∧
      t.led = (if cfg.threshold ≤ satInc cfg s.idleTicks then !s.led else true)) ∧
    (∃ t, runIn cfg [.dispatch, .tick] s = .next t ∧ t.idleTicks = 1 ∧ t.led = true)

/-! The controller's software. -/

/-- R191, R194, R195, R196: what `KEY k` does: the right character at the cursor's position, the last right one, a wrong one, and
any one while unlocked. -/
def Obligations.KeyByLockState : Prop :=
  ∀ (s : State) (k : Byte), s.scan = .idle →
    let sends (b : Byte) : List SendReq := [⟨Config.platform.addrLed, b⟩, ⟨Config.platform.addrLcd, b⟩]
    (s.lockState ≠ .unlocked → k = Config.platform.unlockCode[s.codeIndex] → s.codeIndex = 3 →
      exec (.key k) s = .next { s with codeIndex := 0, lockState := .unlocked, hostTodo := sends 0x55#8 }) ∧
    (∀ j : Fin 4, s.lockState ≠ .unlocked → k = Config.platform.unlockCode[s.codeIndex] →
      j.val = s.codeIndex.val + 1 →
      exec (.key k) s = .next { s with codeIndex := j, lockState := .entering }) ∧
    (s.lockState ≠ .unlocked → k ≠ Config.platform.unlockCode[s.codeIndex] →
      exec (.key k) s = .next { s with codeIndex := 0, lockState := .locked, gInputMismatch := true }) ∧
    (s.lockState = .unlocked → exec (.key k) s = .next
      (if Config.platform.relockPolicy = .key k then { s with lockState := .locked, codeIndex := 0 }
        else { s with hostTodo := sends k }))

/-- R131: inside a scan `KEY`, `RGB_REFRESH` and `RX_TAKE` of a waiting byte are turned away. R193: while a send is owed, a trace of
the host program goes on with that send, which the engine takes in every state of the transmitter, or with a step of
another agent, and a trace that goes on with any other host operation is refused; so is such a step of a controller in the
system. That this order refuses traces and turns no operation away is the model's reading (assumption 9). -/
def Obligations.HostOperationsTurnedAway : Prop :=
  (∀ (s : State) (k : Byte), s.scan ≠ .idle → exec (.key k) s = .refused .hostInsideScan ∧
    exec .rgbRefresh s = .refused .hostInsideScan ∧
    (s.rxFull = true → exec .rxTake s = .refused .hostInsideScan)) ∧
  (∀ (cfg : Config) (i : Instr) (is : List Instr) (s : State), s.hostTodo ≠ [] → hostStep cfg i = true →
    (∀ r rest, s.hostTodo = r :: rest → i ≠ .beginSend r.addr r.payload) →
    runHost cfg (i :: is) s = .refused .sendsPending ∧
    ∀ y : System, y.params = cfg → y.controller = s → sysStep y (.controller i) = none) ∧
  (∀ (cfg : Config) (r : SendReq) (rest : List SendReq) (is : List Instr) (s : State), s.scan = .idle →
    s.hostTodo = r :: rest →
    ∃ t, execIn cfg (.beginSend r.addr r.payload) s = .next t ∧ t.hostTodo = rest ∧
      runHost cfg (.beginSend r.addr r.payload :: is) s = runHost cfg is t) ∧
  (∀ (cfg : Config) (i : Instr) (is : List Instr) (s t : State), hostStep cfg i = false → execIn cfg i s = .next t →
    t.hostTodo = s.hostTodo ∧ runHost cfg (i :: is) s = runHost cfg is t)

/-- R197 (1): the unlock code, entered from LOCKED with no wrong key, unlocks and leaves exactly the two sends of `'U'`. -/
def Obligations.UnlockCodeUnlocks : Prop :=
  ∀ (cfg : Config) (s : State), s.scan = .idle → s.lockState = .locked → s.codeIndex = 0 →
    runIn cfg (cfg.unlockCode.toList.map .key) s = .next { s with
      lockState := .unlocked, hostTodo := [⟨cfg.addrLed, 0x55#8⟩, ⟨cfg.addrLcd, 0x55#8⟩] }

/-- R153, R152: `RGB_REFRESH` emits the three duty values of the lock state's colour and writes no state. -/
def Obligations.RgbRefreshEmitsDuty : Prop :=
  ∀ s : State, s.scan = .idle →
    let k := match s.lockState with
      | .locked => Config.platform.colorLocked
      | .entering => Config.platform.colorEntering
      | .unlocked => Config.platform.colorUnlocked
    let duty (c : Byte) : Nat := (2 * c.toNat * Config.platform.period + 255) / 510
    exec .rgbRefresh s = .next { s with out := s.out ++ [.duty (duty k.r) (duty k.g) (duty k.b)] }

/-- R154: range, endpoints and monotonicity; the result is the one nearest integer, so no tie exists; and period 0 gives 0. -/
def Obligations.DutyCycleRounds : Prop :=
  (∀ p : Nat, toDutyCycle 0#8 p = 0 ∧ toDutyCycle 255#8 p = p) ∧
  (∀ (c d : Byte) (p : Nat), c ≤ d → toDutyCycle c p ≤ toDutyCycle d p) ∧
  (∀ (c : Byte) (p : Nat), toDutyCycle c p ≤ p) ∧
  (∀ (c : Byte) (p : Nat), 2 * (c.toNat * p % 255) ≠ 255) ∧
  (∀ (c : Byte) (p : Nat) (n : Int), n ≠ toDutyCycle c p →
    |255 * (toDutyCycle c p : Int) - c.toNat * p| < |255 * n - c.toNat * p|) ∧
  (∀ c : Byte, toDutyCycle c 0 = 0)

/-! The display node's software. -/

/-- R206 to R209: `DISPATCH` takes the byte, clears the activity timer and carries the command out; on an empty mailbox it is
refused. -/
def Obligations.DispatchByCommand : Prop :=
  (∀ s : State, s.rxFull = true → s.scan = .idle →
    let taken : State := { s with rxFull := false, idleTicks := 0 }
    exec .dispatch s = .next
      (match decodeCommand s.rxByte with
        | .unlock => { taken with unlocked := true }
        | .digit p =>
          if s.unlocked then { taken with activePattern := p, out := s.out ++ [.render p] } else taken
        | .reserved => { taken with gMalformedReceive := true })) ∧
  (∀ s : State, s.rxFull = false → exec .dispatch s = .refused .mailboxEmpty)

/-- R206 to R210, R256: an interrupt-driven dispatcher has the same effect whatever the scanner and the host are doing; a polled
one is turned away inside a scan (R131). That the context is a parameter is the model's choice (assumption 6). -/
def Obligations.DispatchContextMatters : Prop :=
  (∀ (cfg : Config) (s : State), cfg.dispatchContext = .interrupt → s.rxFull = true →
    let taken : State := { s with rxFull := false, idleTicks := 0 }
    execIn cfg .dispatch s = .next
      (match decodeCommand s.rxByte with
        | .unlock => { taken with unlocked := true }
        | .digit p =>
          if s.unlocked then { taken with activePattern := p, out := s.out ++ [.render p] } else taken
        | .reserved => { taken with gMalformedReceive := true })) ∧
  (∀ (cfg : Config) (s : State), cfg.dispatchContext = .mainLoop → s.rxFull = true → s.scan ≠ .idle →
    execIn cfg .dispatch s = .refused .hostInsideScan)

/-- R207, R208, R209: the command bytes as instructions of their own. That a byte standing alone is the arm of `DISPATCH` it
selects, without the mailbox and the timer, is the model's choice (assumption 5); so is that a scan
holds it up as it holds up `DISPATCH` where the dispatcher is polled (assumption 7). -/
def Obligations.CommandBytes : Prop :=
  (∀ s : State, s.scan = .idle →
    exec .cmdU s = .next { s with unlocked := true } ∧
    (∀ p, exec (.cmdDigit p) s = .next
      (if s.unlocked then { s with activePattern := p, out := s.out ++ [.render p] } else s)) ∧
    (∀ b, exec (.cmdReserved b) s = .next { s with gMalformedReceive := true })) ∧
  (∀ (cfg : Config) (s : State), cfg.dispatchContext = .interrupt →
    execIn cfg .cmdU s = .next { s with unlocked := true } ∧
    (∀ p, execIn cfg (.cmdDigit p) s = .next
      (if s.unlocked then { s with activePattern := p, out := s.out ++ [.render p] } else s)) ∧
    (∀ b, execIn cfg (.cmdReserved b) s = .next { s with gMalformedReceive := true })) ∧
  (∀ (cfg : Config) (s : State) (i : Instr), cfg.dispatchContext = .mainLoop → s.scan ≠ .idle →
    (i = .cmdU ∨ (∃ p, i = .cmdDigit p) ∨ ∃ b, i = .cmdReserved b) →
    execIn cfg i s = .refused .hostInsideScan)

/-- R207: receiving `'U'` any number of times leaves the node unlocked with the idle count 0, the pattern unchanged and nothing
rendered. -/
def Obligations.UnlockByteIsIdempotent : Prop :=
  ∀ (cfg : Config) (n : Nat) (s : State), s.scan = .idle →
    runIn cfg (List.replicate (n + 1) [Instr.rxEvent 0x55#8, .dispatch]).flatten s = .next { s with
      rxByte := 0x55#8, rxFull := false, gRxLost := s.gRxLost || s.rxFull, idleTicks := 0, unlocked := true }

/-- R212: nothing but reset clears `unlocked`. -/
def Obligations.UnlockedIsNeverCleared : Prop :=
  ∀ s t : State, step s = .next t → s.unlocked = true → t.unlocked = true

/-- R43: `activePattern` is only updated while `unlocked` is true, and only to the pattern that is rendered. -/
def Obligations.PatternChangesOnlyWhileUnlocked : Prop :=
  ∀ (i : Instr) (s t : State), exec i s = .next t → t.activePattern ≠ s.activePattern →
    s.unlocked = true ∧ t.out = s.out ++ [.render t.activePattern]

/-- R199, R214, R193: one iteration of each main loop runs to its end in the order of the host program, whatever the key and
whatever the transmitter is doing: a scan, the key and its sends, the colour refresh; a scan without a key and the refresh;
and, polled, the byte in the mailbox. Each loop starts with no send owed (R272). -/
def Obligations.MainLoopIterationCompletes : Prop :=
  ∀ (cfg : Config) (s : State), s.scan = .idle → s.hostTodo = [] →
    (∀ (r c : Fin 4) (w : Nat), cfg.releaseTimeout = none →
      ∃ t u, runHost cfg (press cfg r c w) s = .next t ∧
        runHost cfg (afterScan cfg (some (keyAt cfg r c)) t) t = .next u ∧ endsWell u = true) ∧
    (∃ t u, runHost cfg scanNone s = .next t ∧ runHost cfg (afterScan cfg none t) t = .next u ∧
      endsWell u = true ∧ u.lockState = s.lockState ∧ u.codeIndex = s.codeIndex) ∧
    (∃ t, runHost cfg (displayIteration s) s = .next t ∧ t.rxFull = false ∧ endsWell t = true)

/-! The whole node. -/

/-- The invariants of the rules R29, R39, R42, R43, R130, R171 and R197 are kept by every step, and by every trace of the host
program, whose order also keeps the host from owing a send inside a scan (R193). That this last needs the host's order, and
is no invariant of a step, is the model's reading of R193 (assumption 9). -/
def Obligations.NodeInvariantIsKept : Prop :=
  (∀ s t : State, NodeInv Config.platform s → step s = .next t → NodeInv Config.platform t) ∧
  (∀ (cfg : Config) (is : List Instr) (s t : State), NodeInv cfg s → noSendOwedInScan s →
    runHost cfg is s = .next t → NodeInv cfg t ∧ noSendOwedInScan t)

/-- They hold after reset. -/
def Obligations.NodeInvariantAtReset : Prop := ∀ cfg : Config, NodeInv cfg State.reset ∧ noSendOwedInScan State.reset

/-- R252, R254: an interrupt-context step leaves the interrupted context, the host's software and the configuration of the
scanner where they were. -/
def Obligations.InterruptStepsAreNarrow : Prop :=
  ∀ (i : Instr) (s t : State), interruptStep i = true → exec i s = .next t →
    t.scan = s.scan ∧ t.rowN = s.rowN ∧ t.keyValid = s.keyValid ∧ t.keyChar = s.keyChar ∧
    t.txAddr = s.txAddr ∧ t.txPayload = s.txPayload ∧ t.lockState = s.lockState ∧ t.codeIndex = s.codeIndex ∧
    t.hostTodo = s.hostTodo ∧ t.unlocked = s.unlocked ∧ t.activePattern = s.activePattern ∧
    t.takeResult = s.takeResult ∧ t.stimulus = s.stimulus ∧ t.gInputMismatch = s.gInputMismatch ∧
    t.gTransferOverwrite = s.gTransferOverwrite ∧ t.gMalformedReceive = s.gMalformedReceive ∧
    (i ≠ .txEvent → t.txIndex = s.txIndex ∧ t.out = s.out ∧ t.phyPending = s.phyPending ∧
      t.gSpuriousTx = s.gSpuriousTx) ∧
    (i ≠ .tick → t.idleTicks = s.idleTicks ∧ t.led = s.led) ∧
    (i = .txEvent ∨ i = .tick → t.rxByte = s.rxByte ∧ t.rxFull = s.rxFull ∧ t.gRxLost = s.gRxLost)

/-- R49: the ghost indicators are 0 at reset, never cleared, and read by no operation: clearing them before an operation changes
nothing but themselves after it. R48: the output trace is only appended to. -/
def Obligations.GhostsAreStickyAndUnread : Prop :=
  (∀ n : Note, noted n State.reset = false) ∧
  (∀ (i : Instr) (n : Note) (s t : State), exec i s = .next t → noted n s = true → noted n t = true) ∧
  (∀ (i : Instr) (s : State), eraseResult (exec i (eraseGhosts s)) = eraseResult (exec i s)) ∧
  (∀ (i : Instr) (s t : State), exec i s = .next t → s.out <+: t.out)

/-- R10: the state of the spec is closed under every operation. The two fields that `State` adds to `Node`, `takeResult` and
`stimulus`, are read by none: with other values in them an operation answers the same node, or the same refusal. None
writes `stimulus`, and only `RX_TAKE` writes `takeResult`. -/
def Obligations.NodeIsClosedUnderOperations : Prop :=
  ∀ (cfg : Config) (i : Instr) (s : State) (r : Option Byte) (ws : List Word),
    (∀ t, execIn cfg i s = .next t →
      t.stimulus = s.stimulus ∧ (i ≠ .rxTake → t.takeResult = s.takeResult) ∧
      ∃ t', execIn cfg i { s with takeResult := r, stimulus := ws } = .next t' ∧ t'.toNode = t.toNode) ∧
    (∀ x, execIn cfg i s = .refused x → execIn cfg i { s with takeResult := r, stimulus := ws } = .refused x)

/-! The system of nodes. -/

/-- R77, R173: in the system of one controller and its receivers, what a receiver has been given is, in sending order, among the
payloads that may reach it, and the byte in its mailbox is the last it was given; every step of the system keeps this.
A load that follows one `Start` may reach the owners of that address alone. That a load of a disturbed stretch, after
further `Start`s with no `Stop` between, may reach an owner of any address started in the stretch is the model's choice
for what U3 leaves open (assumption 17); what a reset of a node does to the link is its choice too (assumption 21). -/
def Obligations.ReceiversSeeOnlyWhatWasSent : Prop :=
  (∀ (y y' : System) (e : SysEvent), SysInv y → sysStep y e = some y' → SysInv y') ∧
  (∀ (before quiet during : List OutEvent) (a b : Byte), before = [] ∨ before.getLast? = some .stop →
    (∀ e ∈ quiet, ∀ c, e ≠ .start c) → (∀ e ∈ during, e ≠ .stop ∧ ∀ c, e ≠ .start c) →
    linkLoads (before ++ quiet ++ .start a :: during ++ [.loadTx b]) =
      linkLoads (before ++ quiet ++ .start a :: during) ++ [⟨[a], b⟩])

/-- It holds after reset. -/
def Obligations.ReceiversAtReset : Prop := ∀ (params : Config) (rs : List Config), SysInv (sysReset params rs)

/-- R273: a reset of one node is a fresh start of that node alone: the others, and the parameters of all, stay as they are. So a
display node that holds `unlocked` holds it through a reset of the controller and through every other event of the
system but its own reset. That a node's reset is an event of the system is the model's choice (assumption 21). -/
def Obligations.ResetOfOneNodeLeavesTheOthers : Prop :=
  (∀ y : System, ∃ y', sysStep y .resetController = some y' ∧ y'.controller = State.reset ∧
    y'.receivers = y.receivers ∧ y'.params = y.params) ∧
  (∀ (y : System) (j : Nat) (r : Receiver), y.receivers[j]? = some r →
    ∃ y', sysStep y (.resetReceiver j) = some y' ∧ y'.controller = y.controller ∧ y'.params = y.params ∧
      y'.receivers[j]? = some { r with node := State.reset } ∧
      ∀ k, k ≠ j → y'.receivers[k]? = y.receivers[k]?) ∧
  (∀ (y y' : System) (e : SysEvent) (j : Nat) (r : Receiver), sysStep y e = some y' →
    y.receivers[j]? = some r → r.node.unlocked = true → e ≠ .resetReceiver j →
    ∃ r', y'.receivers[j]? = some r' ∧ r'.node.unlocked = true ∧ r'.params = r.params)
end

