-- ==== Sys2Proof/Laws/Decode.lean ====
section
/-! SUPPORT. The fields of an event word: what the encoder's word reads back as, and that its four fields are all of it. -/

namespace Sys2Proof

/-- An instruction is accepted exactly when its zero bits are zero. -/
theorem operandsIf_eq_ok_iff {z : Bool} {i j : Instr} : operandsIf z i = .ok j ↔ z = true ∧ j = i := by
  cases z <;> simp [operandsIf, eq_comm (a := i)]

theorem evwOp_append (op : BitVec 4) (a b : Byte) : evwOp (op ++ 0#4 ++ a ++ b) = op := by
  apply BitVec.eq_of_getLsbD_eq
  intro i hi
  simp only [evwOp, BitVec.getLsbD_extractLsb', BitVec.getLsbD_append]
  interval_cases i <;> simp

theorem evwZ_append (op : BitVec 4) (a b : Byte) : evwZ (op ++ 0#4 ++ a ++ b) = 0#4 := by
  apply BitVec.eq_of_getLsbD_eq
  intro i hi
  simp only [evwZ, BitVec.getLsbD_extractLsb', BitVec.getLsbD_append]
  interval_cases i <;> simp

theorem evwA_append (op : BitVec 4) (a b : Byte) : evwA (op ++ 0#4 ++ a ++ b) = a := by
  apply BitVec.eq_of_getLsbD_eq
  intro i hi
  simp only [evwA, BitVec.getLsbD_extractLsb', BitVec.getLsbD_append]
  interval_cases i <;> simp

theorem evwB_append (op : BitVec 4) (a b : Byte) : evwB (op ++ 0#4 ++ a ++ b) = b := by
  apply BitVec.eq_of_getLsbD_eq
  intro i hi
  simp only [evwB, BitVec.getLsbD_extractLsb', BitVec.getLsbD_append]
  interval_cases i <;> simp

/-- An event word is its operation code, its zero field and its two operands. -/
theorem evw_eq_append (w : BitVec 24) : w = evwOp w ++ evwZ w ++ evwA w ++ evwB w := by
  apply BitVec.eq_of_getLsbD_eq
  intro i hi
  simp only [evwOp, evwZ, evwA, evwB, BitVec.getLsbD_extractLsb', BitVec.getLsbD_append]
  interval_cases i <;> simp

/-- An event word whose zero field is zero is the word of its operation code and operands. -/
theorem evw_eq_evwWord {w : BitVec 24} (h : evwZ w = 0#4) : Word.evw w = evwWord (evwOp w) (evwA w) (evwB w) := by
  unfold evwWord; rw [← h, ← evw_eq_append]

/-- An event word with a nonzero zero field is rejected (R105). -/
theorem decodeEvw_of_zNonzero {w : BitVec 24} (h : evwZ w ≠ 0#4) : decodeEvw w = .error .zNonzero := by
  simp [decodeEvw, h]

end Sys2Proof
end

