-- ==== Sys2Proof/Laws/Link.lean ====
section
/-! SUPPORT. The loads of the wire: they only grow, over a reset too, and a receiver's good state survives more of them. -/

namespace Sys2Proof.Machine

/-- More output adds loads at the end and changes none that is there. -/
theorem linkLoadsFrom_append (xs ys : List OutEvent) (open' : List Byte) :
    ∃ open'', linkLoadsFrom open' (xs ++ ys) = linkLoadsFrom open' xs ++ linkLoadsFrom open'' ys := by
  induction xs generalizing open' with
  | nil => exact ⟨open', rfl⟩
  | cons e xs ih =>
    cases e with
    | loadTx b => obtain ⟨o, h⟩ := ih open'; exact ⟨o, by simp [linkLoadsFrom, h]⟩
    | start a => exact ih (a :: open')
    | stop => exact ih []
    | scanDone k => exact ih open'
    | render p => exact ih open'
    | duty r g b => exact ih open'

/-- A reset of the controller takes nothing off the wire (R273). -/
@[simp] theorem restartController_loads (y : System) : (restartController y).loads = y.loads :=
  List.append_nil _

@[simp] theorem restartController_receivers (y : System) : (restartController y).receivers = y.receivers := rfl

@[simp] theorem restartReceiver_node (r : Receiver) : (restartReceiver r).node = State.reset := rfl

@[simp] theorem restartReceiver_params (r : Receiver) : (restartReceiver r).params = r.params := rfl

/-- More loads on the wire leave a receiver's account right. -/
theorem receiverOk_append {loads more : List LinkLoad} {r : Receiver} (h : receiverOk loads r) :
    receiverOk (loads ++ more) r := by
  obtain ⟨hb, hs, hl⟩ := h
  refine ⟨hb.trans (by simp), ?_, hl⟩
  rwa [payloadsFor, List.take_append_of_le_length hb]

end Sys2Proof.Machine
end

