-- ==== Sys2Proof/Laws/State.lean ====
section
/-! SUPPORT. What each named update does to each field of the state: one lemma per field per update, so that no later proof
unfolds a record update. -/

namespace Sys2Proof.Machine
/-! `emit` (R48) -/
@[simp] theorem emit_scan (e : OutEvent) (s : State) : (emit e s).scan = s.scan := rfl
@[simp] theorem emit_rowN (e : OutEvent) (s : State) : (emit e s).rowN = s.rowN := rfl
@[simp] theorem emit_keyValid (e : OutEvent) (s : State) : (emit e s).keyValid = s.keyValid := rfl
@[simp] theorem emit_keyChar (e : OutEvent) (s : State) : (emit e s).keyChar = s.keyChar := rfl
@[simp] theorem emit_txIndex (e : OutEvent) (s : State) : (emit e s).txIndex = s.txIndex := rfl
@[simp] theorem emit_txAddr (e : OutEvent) (s : State) : (emit e s).txAddr = s.txAddr := rfl
@[simp] theorem emit_txPayload (e : OutEvent) (s : State) : (emit e s).txPayload = s.txPayload := rfl
@[simp] theorem emit_rxFull (e : OutEvent) (s : State) : (emit e s).rxFull = s.rxFull := rfl
@[simp] theorem emit_rxByte (e : OutEvent) (s : State) : (emit e s).rxByte = s.rxByte := rfl
@[simp] theorem emit_idleTicks (e : OutEvent) (s : State) : (emit e s).idleTicks = s.idleTicks := rfl
@[simp] theorem emit_led (e : OutEvent) (s : State) : (emit e s).led = s.led := rfl
@[simp] theorem emit_lockState (e : OutEvent) (s : State) : (emit e s).lockState = s.lockState := rfl
@[simp] theorem emit_codeIndex (e : OutEvent) (s : State) : (emit e s).codeIndex = s.codeIndex := rfl
@[simp] theorem emit_hostTodo (e : OutEvent) (s : State) : (emit e s).hostTodo = s.hostTodo := rfl
@[simp] theorem emit_unlocked (e : OutEvent) (s : State) : (emit e s).unlocked = s.unlocked := rfl
@[simp] theorem emit_activePattern (e : OutEvent) (s : State) : (emit e s).activePattern = s.activePattern := rfl
@[simp] theorem emit_phyPending (e : OutEvent) (s : State) : (emit e s).phyPending = s.phyPending := rfl
@[simp] theorem emit_out (e : OutEvent) (s : State) : (emit e s).out = s.out ++ [e] := rfl
@[simp] theorem emit_gInputMismatch (e : OutEvent) (s : State) : (emit e s).gInputMismatch = s.gInputMismatch := rfl
@[simp] theorem emit_gTransferOverwrite (e : OutEvent) (s : State) : (emit e s).gTransferOverwrite = s.gTransferOverwrite := rfl
@[simp] theorem emit_gMalformedReceive (e : OutEvent) (s : State) : (emit e s).gMalformedReceive = s.gMalformedReceive := rfl
@[simp] theorem emit_gRxLost (e : OutEvent) (s : State) : (emit e s).gRxLost = s.gRxLost := rfl
@[simp] theorem emit_gSpuriousTx (e : OutEvent) (s : State) : (emit e s).gSpuriousTx = s.gSpuriousTx := rfl
@[simp] theorem emit_takeResult (e : OutEvent) (s : State) : (emit e s).takeResult = s.takeResult := rfl
@[simp] theorem emit_stimulus (e : OutEvent) (s : State) : (emit e s).stimulus = s.stimulus := rfl

/-! `emitStart` (R171) -/
@[simp] theorem emitStart_scan (a : Byte) (s : State) : (emitStart a s).scan = s.scan := rfl
@[simp] theorem emitStart_rowN (a : Byte) (s : State) : (emitStart a s).rowN = s.rowN := rfl
@[simp] theorem emitStart_keyValid (a : Byte) (s : State) : (emitStart a s).keyValid = s.keyValid := rfl
@[simp] theorem emitStart_keyChar (a : Byte) (s : State) : (emitStart a s).keyChar = s.keyChar := rfl
@[simp] theorem emitStart_txIndex (a : Byte) (s : State) : (emitStart a s).txIndex = s.txIndex := rfl
@[simp] theorem emitStart_txAddr (a : Byte) (s : State) : (emitStart a s).txAddr = s.txAddr := rfl
@[simp] theorem emitStart_txPayload (a : Byte) (s : State) : (emitStart a s).txPayload = s.txPayload := rfl
@[simp] theorem emitStart_rxFull (a : Byte) (s : State) : (emitStart a s).rxFull = s.rxFull := rfl
@[simp] theorem emitStart_rxByte (a : Byte) (s : State) : (emitStart a s).rxByte = s.rxByte := rfl
@[simp] theorem emitStart_idleTicks (a : Byte) (s : State) : (emitStart a s).idleTicks = s.idleTicks := rfl
@[simp] theorem emitStart_led (a : Byte) (s : State) : (emitStart a s).led = s.led := rfl
@[simp] theorem emitStart_lockState (a : Byte) (s : State) : (emitStart a s).lockState = s.lockState := rfl
@[simp] theorem emitStart_codeIndex (a : Byte) (s : State) : (emitStart a s).codeIndex = s.codeIndex := rfl
@[simp] theorem emitStart_hostTodo (a : Byte) (s : State) : (emitStart a s).hostTodo = s.hostTodo := rfl
@[simp] theorem emitStart_unlocked (a : Byte) (s : State) : (emitStart a s).unlocked = s.unlocked := rfl
@[simp] theorem emitStart_activePattern (a : Byte) (s : State) : (emitStart a s).activePattern = s.activePattern := rfl
@[simp] theorem emitStart_phyPending (a : Byte) (s : State) : (emitStart a s).phyPending = s.phyPending + 1 := rfl
@[simp] theorem emitStart_out (a : Byte) (s : State) : (emitStart a s).out = s.out ++ [.start a] := rfl
@[simp] theorem emitStart_gInputMismatch (a : Byte) (s : State) : (emitStart a s).gInputMismatch = s.gInputMismatch := rfl
@[simp] theorem emitStart_gTransferOverwrite (a : Byte) (s : State) : (emitStart a s).gTransferOverwrite = s.gTransferOverwrite := rfl
@[simp] theorem emitStart_gMalformedReceive (a : Byte) (s : State) : (emitStart a s).gMalformedReceive = s.gMalformedReceive := rfl
@[simp] theorem emitStart_gRxLost (a : Byte) (s : State) : (emitStart a s).gRxLost = s.gRxLost := rfl
@[simp] theorem emitStart_gSpuriousTx (a : Byte) (s : State) : (emitStart a s).gSpuriousTx = s.gSpuriousTx := rfl
@[simp] theorem emitStart_takeResult (a : Byte) (s : State) : (emitStart a s).takeResult = s.takeResult := rfl
@[simp] theorem emitStart_stimulus (a : Byte) (s : State) : (emitStart a s).stimulus = s.stimulus := rfl

/-! `emitLoadTx` (R171) -/
@[simp] theorem emitLoadTx_scan (b : Byte) (s : State) : (emitLoadTx b s).scan = s.scan := rfl
@[simp] theorem emitLoadTx_rowN (b : Byte) (s : State) : (emitLoadTx b s).rowN = s.rowN := rfl
@[simp] theorem emitLoadTx_keyValid (b : Byte) (s : State) : (emitLoadTx b s).keyValid = s.keyValid := rfl
@[simp] theorem emitLoadTx_keyChar (b : Byte) (s : State) : (emitLoadTx b s).keyChar = s.keyChar := rfl
@[simp] theorem emitLoadTx_txIndex (b : Byte) (s : State) : (emitLoadTx b s).txIndex = s.txIndex := rfl
@[simp] theorem emitLoadTx_txAddr (b : Byte) (s : State) : (emitLoadTx b s).txAddr = s.txAddr := rfl
@[simp] theorem emitLoadTx_txPayload (b : Byte) (s : State) : (emitLoadTx b s).txPayload = s.txPayload := rfl
@[simp] theorem emitLoadTx_rxFull (b : Byte) (s : State) : (emitLoadTx b s).rxFull = s.rxFull := rfl
@[simp] theorem emitLoadTx_rxByte (b : Byte) (s : State) : (emitLoadTx b s).rxByte = s.rxByte := rfl
@[simp] theorem emitLoadTx_idleTicks (b : Byte) (s : State) : (emitLoadTx b s).idleTicks = s.idleTicks := rfl
@[simp] theorem emitLoadTx_led (b : Byte) (s : State) : (emitLoadTx b s).led = s.led := rfl
@[simp] theorem emitLoadTx_lockState (b : Byte) (s : State) : (emitLoadTx b s).lockState = s.lockState := rfl
@[simp] theorem emitLoadTx_codeIndex (b : Byte) (s : State) : (emitLoadTx b s).codeIndex = s.codeIndex := rfl
@[simp] theorem emitLoadTx_hostTodo (b : Byte) (s : State) : (emitLoadTx b s).hostTodo = s.hostTodo := rfl
@[simp] theorem emitLoadTx_unlocked (b : Byte) (s : State) : (emitLoadTx b s).unlocked = s.unlocked := rfl
@[simp] theorem emitLoadTx_activePattern (b : Byte) (s : State) : (emitLoadTx b s).activePattern = s.activePattern := rfl
@[simp] theorem emitLoadTx_phyPending (b : Byte) (s : State) : (emitLoadTx b s).phyPending = s.phyPending + 1 := rfl
@[simp] theorem emitLoadTx_out (b : Byte) (s : State) : (emitLoadTx b s).out = s.out ++ [.loadTx b] := rfl
@[simp] theorem emitLoadTx_gInputMismatch (b : Byte) (s : State) : (emitLoadTx b s).gInputMismatch = s.gInputMismatch := rfl
@[simp] theorem emitLoadTx_gTransferOverwrite (b : Byte) (s : State) : (emitLoadTx b s).gTransferOverwrite = s.gTransferOverwrite := rfl
@[simp] theorem emitLoadTx_gMalformedReceive (b : Byte) (s : State) : (emitLoadTx b s).gMalformedReceive = s.gMalformedReceive := rfl
@[simp] theorem emitLoadTx_gRxLost (b : Byte) (s : State) : (emitLoadTx b s).gRxLost = s.gRxLost := rfl
@[simp] theorem emitLoadTx_gSpuriousTx (b : Byte) (s : State) : (emitLoadTx b s).gSpuriousTx = s.gSpuriousTx := rfl
@[simp] theorem emitLoadTx_takeResult (b : Byte) (s : State) : (emitLoadTx b s).takeResult = s.takeResult := rfl
@[simp] theorem emitLoadTx_stimulus (b : Byte) (s : State) : (emitLoadTx b s).stimulus = s.stimulus := rfl

/-! `emitStop` (R171) -/
@[simp] theorem emitStop_scan (s : State) : (emitStop s).scan = s.scan := rfl
@[simp] theorem emitStop_rowN (s : State) : (emitStop s).rowN = s.rowN := rfl
@[simp] theorem emitStop_keyValid (s : State) : (emitStop s).keyValid = s.keyValid := rfl
@[simp] theorem emitStop_keyChar (s : State) : (emitStop s).keyChar = s.keyChar := rfl
@[simp] theorem emitStop_txIndex (s : State) : (emitStop s).txIndex = s.txIndex := rfl
@[simp] theorem emitStop_txAddr (s : State) : (emitStop s).txAddr = s.txAddr := rfl
@[simp] theorem emitStop_txPayload (s : State) : (emitStop s).txPayload = s.txPayload := rfl
@[simp] theorem emitStop_rxFull (s : State) : (emitStop s).rxFull = s.rxFull := rfl
@[simp] theorem emitStop_rxByte (s : State) : (emitStop s).rxByte = s.rxByte := rfl
@[simp] theorem emitStop_idleTicks (s : State) : (emitStop s).idleTicks = s.idleTicks := rfl
@[simp] theorem emitStop_led (s : State) : (emitStop s).led = s.led := rfl
@[simp] theorem emitStop_lockState (s : State) : (emitStop s).lockState = s.lockState := rfl
@[simp] theorem emitStop_codeIndex (s : State) : (emitStop s).codeIndex = s.codeIndex := rfl
@[simp] theorem emitStop_hostTodo (s : State) : (emitStop s).hostTodo = s.hostTodo := rfl
@[simp] theorem emitStop_unlocked (s : State) : (emitStop s).unlocked = s.unlocked := rfl
@[simp] theorem emitStop_activePattern (s : State) : (emitStop s).activePattern = s.activePattern := rfl
@[simp] theorem emitStop_phyPending (s : State) : (emitStop s).phyPending = s.phyPending := rfl
@[simp] theorem emitStop_out (s : State) : (emitStop s).out = s.out ++ [.stop] := rfl
@[simp] theorem emitStop_gInputMismatch (s : State) : (emitStop s).gInputMismatch = s.gInputMismatch := rfl
@[simp] theorem emitStop_gTransferOverwrite (s : State) : (emitStop s).gTransferOverwrite = s.gTransferOverwrite := rfl
@[simp] theorem emitStop_gMalformedReceive (s : State) : (emitStop s).gMalformedReceive = s.gMalformedReceive := rfl
@[simp] theorem emitStop_gRxLost (s : State) : (emitStop s).gRxLost = s.gRxLost := rfl
@[simp] theorem emitStop_gSpuriousTx (s : State) : (emitStop s).gSpuriousTx = s.gSpuriousTx := rfl
@[simp] theorem emitStop_takeResult (s : State) : (emitStop s).takeResult = s.takeResult := rfl
@[simp] theorem emitStop_stimulus (s : State) : (emitStop s).stimulus = s.stimulus := rfl

/-! `reportSent` (R171) -/
@[simp] theorem reportSent_scan (s : State) : (reportSent s).scan = s.scan := rfl
@[simp] theorem reportSent_rowN (s : State) : (reportSent s).rowN = s.rowN := rfl
@[simp] theorem reportSent_keyValid (s : State) : (reportSent s).keyValid = s.keyValid := rfl
@[simp] theorem reportSent_keyChar (s : State) : (reportSent s).keyChar = s.keyChar := rfl
@[simp] theorem reportSent_txIndex (s : State) : (reportSent s).txIndex = s.txIndex := rfl
@[simp] theorem reportSent_txAddr (s : State) : (reportSent s).txAddr = s.txAddr := rfl
@[simp] theorem reportSent_txPayload (s : State) : (reportSent s).txPayload = s.txPayload := rfl
@[simp] theorem reportSent_rxFull (s : State) : (reportSent s).rxFull = s.rxFull := rfl
@[simp] theorem reportSent_rxByte (s : State) : (reportSent s).rxByte = s.rxByte := rfl
@[simp] theorem reportSent_idleTicks (s : State) : (reportSent s).idleTicks = s.idleTicks := rfl
@[simp] theorem reportSent_led (s : State) : (reportSent s).led = s.led := rfl
@[simp] theorem reportSent_lockState (s : State) : (reportSent s).lockState = s.lockState := rfl
@[simp] theorem reportSent_codeIndex (s : State) : (reportSent s).codeIndex = s.codeIndex := rfl
@[simp] theorem reportSent_hostTodo (s : State) : (reportSent s).hostTodo = s.hostTodo := rfl
@[simp] theorem reportSent_unlocked (s : State) : (reportSent s).unlocked = s.unlocked := rfl
@[simp] theorem reportSent_activePattern (s : State) : (reportSent s).activePattern = s.activePattern := rfl
@[simp] theorem reportSent_phyPending (s : State) : (reportSent s).phyPending = s.phyPending - 1 := rfl
@[simp] theorem reportSent_out (s : State) : (reportSent s).out = s.out := rfl
@[simp] theorem reportSent_gInputMismatch (s : State) : (reportSent s).gInputMismatch = s.gInputMismatch := rfl
@[simp] theorem reportSent_gTransferOverwrite (s : State) : (reportSent s).gTransferOverwrite = s.gTransferOverwrite := rfl
@[simp] theorem reportSent_gMalformedReceive (s : State) : (reportSent s).gMalformedReceive = s.gMalformedReceive := rfl
@[simp] theorem reportSent_gRxLost (s : State) : (reportSent s).gRxLost = s.gRxLost := rfl
@[simp] theorem reportSent_gSpuriousTx (s : State) : (reportSent s).gSpuriousTx = s.gSpuriousTx := rfl
@[simp] theorem reportSent_takeResult (s : State) : (reportSent s).takeResult = s.takeResult := rfl
@[simp] theorem reportSent_stimulus (s : State) : (reportSent s).stimulus = s.stimulus := rfl

/-! `loadFrame` (R21) -/
@[simp] theorem loadFrame_scan (a b : Byte) (s : State) : (loadFrame a b s).scan = s.scan := rfl
@[simp] theorem loadFrame_rowN (a b : Byte) (s : State) : (loadFrame a b s).rowN = s.rowN := rfl
@[simp] theorem loadFrame_keyValid (a b : Byte) (s : State) : (loadFrame a b s).keyValid = s.keyValid := rfl
@[simp] theorem loadFrame_keyChar (a b : Byte) (s : State) : (loadFrame a b s).keyChar = s.keyChar := rfl
@[simp] theorem loadFrame_txIndex (a b : Byte) (s : State) : (loadFrame a b s).txIndex = s.txIndex := rfl
@[simp] theorem loadFrame_txAddr (a b : Byte) (s : State) : (loadFrame a b s).txAddr = a := rfl
@[simp] theorem loadFrame_txPayload (a b : Byte) (s : State) : (loadFrame a b s).txPayload = b := rfl
@[simp] theorem loadFrame_rxFull (a b : Byte) (s : State) : (loadFrame a b s).rxFull = s.rxFull := rfl
@[simp] theorem loadFrame_rxByte (a b : Byte) (s : State) : (loadFrame a b s).rxByte = s.rxByte := rfl
@[simp] theorem loadFrame_idleTicks (a b : Byte) (s : State) : (loadFrame a b s).idleTicks = s.idleTicks := rfl
@[simp] theorem loadFrame_led (a b : Byte) (s : State) : (loadFrame a b s).led = s.led := rfl
@[simp] theorem loadFrame_lockState (a b : Byte) (s : State) : (loadFrame a b s).lockState = s.lockState := rfl
@[simp] theorem loadFrame_codeIndex (a b : Byte) (s : State) : (loadFrame a b s).codeIndex = s.codeIndex := rfl
@[simp] theorem loadFrame_hostTodo (a b : Byte) (s : State) : (loadFrame a b s).hostTodo = s.hostTodo := rfl
@[simp] theorem loadFrame_unlocked (a b : Byte) (s : State) : (loadFrame a b s).unlocked = s.unlocked := rfl
@[simp] theorem loadFrame_activePattern (a b : Byte) (s : State) : (loadFrame a b s).activePattern = s.activePattern := rfl
@[simp] theorem loadFrame_phyPending (a b : Byte) (s : State) : (loadFrame a b s).phyPending = s.phyPending := rfl
@[simp] theorem loadFrame_out (a b : Byte) (s : State) : (loadFrame a b s).out = s.out := rfl
@[simp] theorem loadFrame_gInputMismatch (a b : Byte) (s : State) : (loadFrame a b s).gInputMismatch = s.gInputMismatch := rfl
@[simp] theorem loadFrame_gTransferOverwrite (a b : Byte) (s : State) : (loadFrame a b s).gTransferOverwrite = s.gTransferOverwrite := rfl
@[simp] theorem loadFrame_gMalformedReceive (a b : Byte) (s : State) : (loadFrame a b s).gMalformedReceive = s.gMalformedReceive := rfl
@[simp] theorem loadFrame_gRxLost (a b : Byte) (s : State) : (loadFrame a b s).gRxLost = s.gRxLost := rfl
@[simp] theorem loadFrame_gSpuriousTx (a b : Byte) (s : State) : (loadFrame a b s).gSpuriousTx = s.gSpuriousTx := rfl
@[simp] theorem loadFrame_takeResult (a b : Byte) (s : State) : (loadFrame a b s).takeResult = s.takeResult := rfl
@[simp] theorem loadFrame_stimulus (a b : Byte) (s : State) : (loadFrame a b s).stimulus = s.stimulus := rfl

/-! `startFrame` (R162) -/
@[simp] theorem startFrame_scan (a b : Byte) (s : State) : (startFrame a b s).scan = s.scan := rfl
@[simp] theorem startFrame_rowN (a b : Byte) (s : State) : (startFrame a b s).rowN = s.rowN := rfl
@[simp] theorem startFrame_keyValid (a b : Byte) (s : State) : (startFrame a b s).keyValid = s.keyValid := rfl
@[simp] theorem startFrame_keyChar (a b : Byte) (s : State) : (startFrame a b s).keyChar = s.keyChar := rfl
@[simp] theorem startFrame_txIndex (a b : Byte) (s : State) : (startFrame a b s).txIndex = .addrSent := rfl
@[simp] theorem startFrame_txAddr (a b : Byte) (s : State) : (startFrame a b s).txAddr = a := rfl
@[simp] theorem startFrame_txPayload (a b : Byte) (s : State) : (startFrame a b s).txPayload = b := rfl
@[simp] theorem startFrame_rxFull (a b : Byte) (s : State) : (startFrame a b s).rxFull = s.rxFull := rfl
@[simp] theorem startFrame_rxByte (a b : Byte) (s : State) : (startFrame a b s).rxByte = s.rxByte := rfl
@[simp] theorem startFrame_idleTicks (a b : Byte) (s : State) : (startFrame a b s).idleTicks = s.idleTicks := rfl
@[simp] theorem startFrame_led (a b : Byte) (s : State) : (startFrame a b s).led = s.led := rfl
@[simp] theorem startFrame_lockState (a b : Byte) (s : State) : (startFrame a b s).lockState = s.lockState := rfl
@[simp] theorem startFrame_codeIndex (a b : Byte) (s : State) : (startFrame a b s).codeIndex = s.codeIndex := rfl
@[simp] theorem startFrame_hostTodo (a b : Byte) (s : State) : (startFrame a b s).hostTodo = s.hostTodo := rfl
@[simp] theorem startFrame_unlocked (a b : Byte) (s : State) : (startFrame a b s).unlocked = s.unlocked := rfl
@[simp] theorem startFrame_activePattern (a b : Byte) (s : State) : (startFrame a b s).activePattern = s.activePattern := rfl
@[simp] theorem startFrame_phyPending (a b : Byte) (s : State) : (startFrame a b s).phyPending = s.phyPending + 1 := rfl
@[simp] theorem startFrame_out (a b : Byte) (s : State) : (startFrame a b s).out = s.out ++ [.start a] := rfl
@[simp] theorem startFrame_gInputMismatch (a b : Byte) (s : State) : (startFrame a b s).gInputMismatch = s.gInputMismatch := rfl
@[simp] theorem startFrame_gTransferOverwrite (a b : Byte) (s : State) : (startFrame a b s).gTransferOverwrite = s.gTransferOverwrite := rfl
@[simp] theorem startFrame_gMalformedReceive (a b : Byte) (s : State) : (startFrame a b s).gMalformedReceive = s.gMalformedReceive := rfl
@[simp] theorem startFrame_gRxLost (a b : Byte) (s : State) : (startFrame a b s).gRxLost = s.gRxLost := rfl
@[simp] theorem startFrame_gSpuriousTx (a b : Byte) (s : State) : (startFrame a b s).gSpuriousTx = s.gSpuriousTx := rfl
@[simp] theorem startFrame_takeResult (a b : Byte) (s : State) : (startFrame a b s).takeResult = s.takeResult := rfl
@[simp] theorem startFrame_stimulus (a b : Byte) (s : State) : (startFrame a b s).stimulus = s.stimulus := rfl

/-! `landByte` (R168) -/
@[simp] theorem landByte_scan (b : Byte) (s : State) : (landByte b s).scan = s.scan := by cases h : s.rxFull <;> simp [landByte, noteIf, note, h]
@[simp] theorem landByte_rowN (b : Byte) (s : State) : (landByte b s).rowN = s.rowN := by cases h : s.rxFull <;> simp [landByte, noteIf, note, h]
@[simp] theorem landByte_keyValid (b : Byte) (s : State) : (landByte b s).keyValid = s.keyValid := by cases h : s.rxFull <;> simp [landByte, noteIf, note, h]
@[simp] theorem landByte_keyChar (b : Byte) (s : State) : (landByte b s).keyChar = s.keyChar := by cases h : s.rxFull <;> simp [landByte, noteIf, note, h]
@[simp] theorem landByte_txIndex (b : Byte) (s : State) : (landByte b s).txIndex = s.txIndex := by cases h : s.rxFull <;> simp [landByte, noteIf, note, h]
@[simp] theorem landByte_txAddr (b : Byte) (s : State) : (landByte b s).txAddr = s.txAddr := by cases h : s.rxFull <;> simp [landByte, noteIf, note, h]
@[simp] theorem landByte_txPayload (b : Byte) (s : State) : (landByte b s).txPayload = s.txPayload := by cases h : s.rxFull <;> simp [landByte, noteIf, note, h]
@[simp] theorem landByte_rxFull (b : Byte) (s : State) : (landByte b s).rxFull = true := rfl
@[simp] theorem landByte_rxByte (b : Byte) (s : State) : (landByte b s).rxByte = b := rfl
@[simp] theorem landByte_idleTicks (b : Byte) (s : State) : (landByte b s).idleTicks = s.idleTicks := by cases h : s.rxFull <;> simp [landByte, noteIf, note, h]
@[simp] theorem landByte_led (b : Byte) (s : State) : (landByte b s).led = s.led := by cases h : s.rxFull <;> simp [landByte, noteIf, note, h]
@[simp] theorem landByte_lockState (b : Byte) (s : State) : (landByte b s).lockState = s.lockState := by cases h : s.rxFull <;> simp [landByte, noteIf, note, h]
@[simp] theorem landByte_codeIndex (b : Byte) (s : State) : (landByte b s).codeIndex = s.codeIndex := by cases h : s.rxFull <;> simp [landByte, noteIf, note, h]
@[simp] theorem landByte_hostTodo (b : Byte) (s : State) : (landByte b s).hostTodo = s.hostTodo := by cases h : s.rxFull <;> simp [landByte, noteIf, note, h]
@[simp] theorem landByte_unlocked (b : Byte) (s : State) : (landByte b s).unlocked = s.unlocked := by cases h : s.rxFull <;> simp [landByte, noteIf, note, h]
@[simp] theorem landByte_activePattern (b : Byte) (s : State) : (landByte b s).activePattern = s.activePattern := by cases h : s.rxFull <;> simp [landByte, noteIf, note, h]
@[simp] theorem landByte_phyPending (b : Byte) (s : State) : (landByte b s).phyPending = s.phyPending := by cases h : s.rxFull <;> simp [landByte, noteIf, note, h]
@[simp] theorem landByte_out (b : Byte) (s : State) : (landByte b s).out = s.out := by cases h : s.rxFull <;> simp [landByte, noteIf, note, h]
@[simp] theorem landByte_gInputMismatch (b : Byte) (s : State) : (landByte b s).gInputMismatch = s.gInputMismatch := by cases h : s.rxFull <;> simp [landByte, noteIf, note, h]
@[simp] theorem landByte_gTransferOverwrite (b : Byte) (s : State) : (landByte b s).gTransferOverwrite = s.gTransferOverwrite := by cases h : s.rxFull <;> simp [landByte, noteIf, note, h]
@[simp] theorem landByte_gMalformedReceive (b : Byte) (s : State) : (landByte b s).gMalformedReceive = s.gMalformedReceive := by cases h : s.rxFull <;> simp [landByte, noteIf, note, h]
@[simp] theorem landByte_gRxLost (b : Byte) (s : State) : (landByte b s).gRxLost = (s.gRxLost || s.rxFull) := by cases h : s.rxFull <;> simp [landByte, noteIf, note, h]
@[simp] theorem landByte_gSpuriousTx (b : Byte) (s : State) : (landByte b s).gSpuriousTx = s.gSpuriousTx := by cases h : s.rxFull <;> simp [landByte, noteIf, note, h]
@[simp] theorem landByte_takeResult (b : Byte) (s : State) : (landByte b s).takeResult = s.takeResult := by cases h : s.rxFull <;> simp [landByte, noteIf, note, h]
@[simp] theorem landByte_stimulus (b : Byte) (s : State) : (landByte b s).stimulus = s.stimulus := by cases h : s.rxFull <;> simp [landByte, noteIf, note, h]

/-! `emptyMailbox` (R69) -/
@[simp] theorem emptyMailbox_scan (s : State) : (emptyMailbox s).scan = s.scan := rfl
@[simp] theorem emptyMailbox_rowN (s : State) : (emptyMailbox s).rowN = s.rowN := rfl
@[simp] theorem emptyMailbox_keyValid (s : State) : (emptyMailbox s).keyValid = s.keyValid := rfl
@[simp] theorem emptyMailbox_keyChar (s : State) : (emptyMailbox s).keyChar = s.keyChar := rfl
@[simp] theorem emptyMailbox_txIndex (s : State) : (emptyMailbox s).txIndex = s.txIndex := rfl
@[simp] theorem emptyMailbox_txAddr (s : State) : (emptyMailbox s).txAddr = s.txAddr := rfl
@[simp] theorem emptyMailbox_txPayload (s : State) : (emptyMailbox s).txPayload = s.txPayload := rfl
@[simp] theorem emptyMailbox_rxFull (s : State) : (emptyMailbox s).rxFull = false := rfl
@[simp] theorem emptyMailbox_rxByte (s : State) : (emptyMailbox s).rxByte = s.rxByte := rfl
@[simp] theorem emptyMailbox_idleTicks (s : State) : (emptyMailbox s).idleTicks = s.idleTicks := rfl
@[simp] theorem emptyMailbox_led (s : State) : (emptyMailbox s).led = s.led := rfl
@[simp] theorem emptyMailbox_lockState (s : State) : (emptyMailbox s).lockState = s.lockState := rfl
@[simp] theorem emptyMailbox_codeIndex (s : State) : (emptyMailbox s).codeIndex = s.codeIndex := rfl
@[simp] theorem emptyMailbox_hostTodo (s : State) : (emptyMailbox s).hostTodo = s.hostTodo := rfl
@[simp] theorem emptyMailbox_unlocked (s : State) : (emptyMailbox s).unlocked = s.unlocked := rfl
@[simp] theorem emptyMailbox_activePattern (s : State) : (emptyMailbox s).activePattern = s.activePattern := rfl
@[simp] theorem emptyMailbox_phyPending (s : State) : (emptyMailbox s).phyPending = s.phyPending := rfl
@[simp] theorem emptyMailbox_out (s : State) : (emptyMailbox s).out = s.out := rfl
@[simp] theorem emptyMailbox_gInputMismatch (s : State) : (emptyMailbox s).gInputMismatch = s.gInputMismatch := rfl
@[simp] theorem emptyMailbox_gTransferOverwrite (s : State) : (emptyMailbox s).gTransferOverwrite = s.gTransferOverwrite := rfl
@[simp] theorem emptyMailbox_gMalformedReceive (s : State) : (emptyMailbox s).gMalformedReceive = s.gMalformedReceive := rfl
@[simp] theorem emptyMailbox_gRxLost (s : State) : (emptyMailbox s).gRxLost = s.gRxLost := rfl
@[simp] theorem emptyMailbox_gSpuriousTx (s : State) : (emptyMailbox s).gSpuriousTx = s.gSpuriousTx := rfl
@[simp] theorem emptyMailbox_takeResult (s : State) : (emptyMailbox s).takeResult = s.takeResult := rfl
@[simp] theorem emptyMailbox_stimulus (s : State) : (emptyMailbox s).stimulus = s.stimulus := rfl

/-! `clearIdle` (R223) -/
@[simp] theorem clearIdle_scan (s : State) : (clearIdle s).scan = s.scan := rfl
@[simp] theorem clearIdle_rowN (s : State) : (clearIdle s).rowN = s.rowN := rfl
@[simp] theorem clearIdle_keyValid (s : State) : (clearIdle s).keyValid = s.keyValid := rfl
@[simp] theorem clearIdle_keyChar (s : State) : (clearIdle s).keyChar = s.keyChar := rfl
@[simp] theorem clearIdle_txIndex (s : State) : (clearIdle s).txIndex = s.txIndex := rfl
@[simp] theorem clearIdle_txAddr (s : State) : (clearIdle s).txAddr = s.txAddr := rfl
@[simp] theorem clearIdle_txPayload (s : State) : (clearIdle s).txPayload = s.txPayload := rfl
@[simp] theorem clearIdle_rxFull (s : State) : (clearIdle s).rxFull = s.rxFull := rfl
@[simp] theorem clearIdle_rxByte (s : State) : (clearIdle s).rxByte = s.rxByte := rfl
@[simp] theorem clearIdle_idleTicks (s : State) : (clearIdle s).idleTicks = 0 := rfl
@[simp] theorem clearIdle_led (s : State) : (clearIdle s).led = s.led := rfl
@[simp] theorem clearIdle_lockState (s : State) : (clearIdle s).lockState = s.lockState := rfl
@[simp] theorem clearIdle_codeIndex (s : State) : (clearIdle s).codeIndex = s.codeIndex := rfl
@[simp] theorem clearIdle_hostTodo (s : State) : (clearIdle s).hostTodo = s.hostTodo := rfl
@[simp] theorem clearIdle_unlocked (s : State) : (clearIdle s).unlocked = s.unlocked := rfl
@[simp] theorem clearIdle_activePattern (s : State) : (clearIdle s).activePattern = s.activePattern := rfl
@[simp] theorem clearIdle_phyPending (s : State) : (clearIdle s).phyPending = s.phyPending := rfl
@[simp] theorem clearIdle_out (s : State) : (clearIdle s).out = s.out := rfl
@[simp] theorem clearIdle_gInputMismatch (s : State) : (clearIdle s).gInputMismatch = s.gInputMismatch := rfl
@[simp] theorem clearIdle_gTransferOverwrite (s : State) : (clearIdle s).gTransferOverwrite = s.gTransferOverwrite := rfl
@[simp] theorem clearIdle_gMalformedReceive (s : State) : (clearIdle s).gMalformedReceive = s.gMalformedReceive := rfl
@[simp] theorem clearIdle_gRxLost (s : State) : (clearIdle s).gRxLost = s.gRxLost := rfl
@[simp] theorem clearIdle_gSpuriousTx (s : State) : (clearIdle s).gSpuriousTx = s.gSpuriousTx := rfl
@[simp] theorem clearIdle_takeResult (s : State) : (clearIdle s).takeResult = s.takeResult := rfl
@[simp] theorem clearIdle_stimulus (s : State) : (clearIdle s).stimulus = s.stimulus := rfl

/-! `finishNoKey` (R123) -/
@[simp] theorem finishNoKey_scan (s : State) : (finishNoKey s).scan = .idle := rfl
@[simp] theorem finishNoKey_rowN (s : State) : (finishNoKey s).rowN = rowsHigh := rfl
@[simp] theorem finishNoKey_keyValid (s : State) : (finishNoKey s).keyValid = false := rfl
@[simp] theorem finishNoKey_keyChar (s : State) : (finishNoKey s).keyChar = s.keyChar := rfl
@[simp] theorem finishNoKey_txIndex (s : State) : (finishNoKey s).txIndex = s.txIndex := rfl
@[simp] theorem finishNoKey_txAddr (s : State) : (finishNoKey s).txAddr = s.txAddr := rfl
@[simp] theorem finishNoKey_txPayload (s : State) : (finishNoKey s).txPayload = s.txPayload := rfl
@[simp] theorem finishNoKey_rxFull (s : State) : (finishNoKey s).rxFull = s.rxFull := rfl
@[simp] theorem finishNoKey_rxByte (s : State) : (finishNoKey s).rxByte = s.rxByte := rfl
@[simp] theorem finishNoKey_idleTicks (s : State) : (finishNoKey s).idleTicks = s.idleTicks := rfl
@[simp] theorem finishNoKey_led (s : State) : (finishNoKey s).led = s.led := rfl
@[simp] theorem finishNoKey_lockState (s : State) : (finishNoKey s).lockState = s.lockState := rfl
@[simp] theorem finishNoKey_codeIndex (s : State) : (finishNoKey s).codeIndex = s.codeIndex := rfl
@[simp] theorem finishNoKey_hostTodo (s : State) : (finishNoKey s).hostTodo = s.hostTodo := rfl
@[simp] theorem finishNoKey_unlocked (s : State) : (finishNoKey s).unlocked = s.unlocked := rfl
@[simp] theorem finishNoKey_activePattern (s : State) : (finishNoKey s).activePattern = s.activePattern := rfl
@[simp] theorem finishNoKey_phyPending (s : State) : (finishNoKey s).phyPending = s.phyPending := rfl
@[simp] theorem finishNoKey_out (s : State) : (finishNoKey s).out = s.out ++ [.scanDone none] := rfl
@[simp] theorem finishNoKey_gInputMismatch (s : State) : (finishNoKey s).gInputMismatch = s.gInputMismatch := rfl
@[simp] theorem finishNoKey_gTransferOverwrite (s : State) : (finishNoKey s).gTransferOverwrite = s.gTransferOverwrite := rfl
@[simp] theorem finishNoKey_gMalformedReceive (s : State) : (finishNoKey s).gMalformedReceive = s.gMalformedReceive := rfl
@[simp] theorem finishNoKey_gRxLost (s : State) : (finishNoKey s).gRxLost = s.gRxLost := rfl
@[simp] theorem finishNoKey_gSpuriousTx (s : State) : (finishNoKey s).gSpuriousTx = s.gSpuriousTx := rfl
@[simp] theorem finishNoKey_takeResult (s : State) : (finishNoKey s).takeResult = s.takeResult := rfl
@[simp] theorem finishNoKey_stimulus (s : State) : (finishNoKey s).stimulus = s.stimulus := rfl

/-! `finishKey` (R125) -/
@[simp] theorem finishKey_scan (k : Byte) (s : State) : (finishKey k s).scan = .idle := rfl
@[simp] theorem finishKey_rowN (k : Byte) (s : State) : (finishKey k s).rowN = rowsHigh := rfl
@[simp] theorem finishKey_keyValid (k : Byte) (s : State) : (finishKey k s).keyValid = true := rfl
@[simp] theorem finishKey_keyChar (k : Byte) (s : State) : (finishKey k s).keyChar = k := rfl
@[simp] theorem finishKey_txIndex (k : Byte) (s : State) : (finishKey k s).txIndex = s.txIndex := rfl
@[simp] theorem finishKey_txAddr (k : Byte) (s : State) : (finishKey k s).txAddr = s.txAddr := rfl
@[simp] theorem finishKey_txPayload (k : Byte) (s : State) : (finishKey k s).txPayload = s.txPayload := rfl
@[simp] theorem finishKey_rxFull (k : Byte) (s : State) : (finishKey k s).rxFull = s.rxFull := rfl
@[simp] theorem finishKey_rxByte (k : Byte) (s : State) : (finishKey k s).rxByte = s.rxByte := rfl
@[simp] theorem finishKey_idleTicks (k : Byte) (s : State) : (finishKey k s).idleTicks = s.idleTicks := rfl
@[simp] theorem finishKey_led (k : Byte) (s : State) : (finishKey k s).led = s.led := rfl
@[simp] theorem finishKey_lockState (k : Byte) (s : State) : (finishKey k s).lockState = s.lockState := rfl
@[simp] theorem finishKey_codeIndex (k : Byte) (s : State) : (finishKey k s).codeIndex = s.codeIndex := rfl
@[simp] theorem finishKey_hostTodo (k : Byte) (s : State) : (finishKey k s).hostTodo = s.hostTodo := rfl
@[simp] theorem finishKey_unlocked (k : Byte) (s : State) : (finishKey k s).unlocked = s.unlocked := rfl
@[simp] theorem finishKey_activePattern (k : Byte) (s : State) : (finishKey k s).activePattern = s.activePattern := rfl
@[simp] theorem finishKey_phyPending (k : Byte) (s : State) : (finishKey k s).phyPending = s.phyPending := rfl
@[simp] theorem finishKey_out (k : Byte) (s : State) : (finishKey k s).out = s.out ++ [.scanDone (some k)] := rfl
@[simp] theorem finishKey_gInputMismatch (k : Byte) (s : State) : (finishKey k s).gInputMismatch = s.gInputMismatch := rfl
@[simp] theorem finishKey_gTransferOverwrite (k : Byte) (s : State) : (finishKey k s).gTransferOverwrite = s.gTransferOverwrite := rfl
@[simp] theorem finishKey_gMalformedReceive (k : Byte) (s : State) : (finishKey k s).gMalformedReceive = s.gMalformedReceive := rfl
@[simp] theorem finishKey_gRxLost (k : Byte) (s : State) : (finishKey k s).gRxLost = s.gRxLost := rfl
@[simp] theorem finishKey_gSpuriousTx (k : Byte) (s : State) : (finishKey k s).gSpuriousTx = s.gSpuriousTx := rfl
@[simp] theorem finishKey_takeResult (k : Byte) (s : State) : (finishKey k s).takeResult = s.takeResult := rfl
@[simp] theorem finishKey_stimulus (k : Byte) (s : State) : (finishKey k s).stimulus = s.stimulus := rfl

/-! `probeRow` (R121) -/
@[simp] theorem probeRow_scan (r : Fin 4) (s : State) : (probeRow r s).scan = .probe r := rfl
@[simp] theorem probeRow_rowN (r : Fin 4) (s : State) : (probeRow r s).rowN = oneCold r := rfl
@[simp] theorem probeRow_keyValid (r : Fin 4) (s : State) : (probeRow r s).keyValid = s.keyValid := rfl
@[simp] theorem probeRow_keyChar (r : Fin 4) (s : State) : (probeRow r s).keyChar = s.keyChar := rfl
@[simp] theorem probeRow_txIndex (r : Fin 4) (s : State) : (probeRow r s).txIndex = s.txIndex := rfl
@[simp] theorem probeRow_txAddr (r : Fin 4) (s : State) : (probeRow r s).txAddr = s.txAddr := rfl
@[simp] theorem probeRow_txPayload (r : Fin 4) (s : State) : (probeRow r s).txPayload = s.txPayload := rfl
@[simp] theorem probeRow_rxFull (r : Fin 4) (s : State) : (probeRow r s).rxFull = s.rxFull := rfl
@[simp] theorem probeRow_rxByte (r : Fin 4) (s : State) : (probeRow r s).rxByte = s.rxByte := rfl
@[simp] theorem probeRow_idleTicks (r : Fin 4) (s : State) : (probeRow r s).idleTicks = s.idleTicks := rfl
@[simp] theorem probeRow_led (r : Fin 4) (s : State) : (probeRow r s).led = s.led := rfl
@[simp] theorem probeRow_lockState (r : Fin 4) (s : State) : (probeRow r s).lockState = s.lockState := rfl
@[simp] theorem probeRow_codeIndex (r : Fin 4) (s : State) : (probeRow r s).codeIndex = s.codeIndex := rfl
@[simp] theorem probeRow_hostTodo (r : Fin 4) (s : State) : (probeRow r s).hostTodo = s.hostTodo := rfl
@[simp] theorem probeRow_unlocked (r : Fin 4) (s : State) : (probeRow r s).unlocked = s.unlocked := rfl
@[simp] theorem probeRow_activePattern (r : Fin 4) (s : State) : (probeRow r s).activePattern = s.activePattern := rfl
@[simp] theorem probeRow_phyPending (r : Fin 4) (s : State) : (probeRow r s).phyPending = s.phyPending := rfl
@[simp] theorem probeRow_out (r : Fin 4) (s : State) : (probeRow r s).out = s.out := rfl
@[simp] theorem probeRow_gInputMismatch (r : Fin 4) (s : State) : (probeRow r s).gInputMismatch = s.gInputMismatch := rfl
@[simp] theorem probeRow_gTransferOverwrite (r : Fin 4) (s : State) : (probeRow r s).gTransferOverwrite = s.gTransferOverwrite := rfl
@[simp] theorem probeRow_gMalformedReceive (r : Fin 4) (s : State) : (probeRow r s).gMalformedReceive = s.gMalformedReceive := rfl
@[simp] theorem probeRow_gRxLost (r : Fin 4) (s : State) : (probeRow r s).gRxLost = s.gRxLost := rfl
@[simp] theorem probeRow_gSpuriousTx (r : Fin 4) (s : State) : (probeRow r s).gSpuriousTx = s.gSpuriousTx := rfl
@[simp] theorem probeRow_takeResult (r : Fin 4) (s : State) : (probeRow r s).takeResult = s.takeResult := rfl
@[simp] theorem probeRow_stimulus (r : Fin 4) (s : State) : (probeRow r s).stimulus = s.stimulus := rfl

/-! `applyUnlock` (R207) -/
@[simp] theorem applyUnlock_scan (s : State) : (applyUnlock s).scan = s.scan := rfl
@[simp] theorem applyUnlock_rowN (s : State) : (applyUnlock s).rowN = s.rowN := rfl
@[simp] theorem applyUnlock_keyValid (s : State) : (applyUnlock s).keyValid = s.keyValid := rfl
@[simp] theorem applyUnlock_keyChar (s : State) : (applyUnlock s).keyChar = s.keyChar := rfl
@[simp] theorem applyUnlock_txIndex (s : State) : (applyUnlock s).txIndex = s.txIndex := rfl
@[simp] theorem applyUnlock_txAddr (s : State) : (applyUnlock s).txAddr = s.txAddr := rfl
@[simp] theorem applyUnlock_txPayload (s : State) : (applyUnlock s).txPayload = s.txPayload := rfl
@[simp] theorem applyUnlock_rxFull (s : State) : (applyUnlock s).rxFull = s.rxFull := rfl
@[simp] theorem applyUnlock_rxByte (s : State) : (applyUnlock s).rxByte = s.rxByte := rfl
@[simp] theorem applyUnlock_idleTicks (s : State) : (applyUnlock s).idleTicks = s.idleTicks := rfl
@[simp] theorem applyUnlock_led (s : State) : (applyUnlock s).led = s.led := rfl
@[simp] theorem applyUnlock_lockState (s : State) : (applyUnlock s).lockState = s.lockState := rfl
@[simp] theorem applyUnlock_codeIndex (s : State) : (applyUnlock s).codeIndex = s.codeIndex := rfl
@[simp] theorem applyUnlock_hostTodo (s : State) : (applyUnlock s).hostTodo = s.hostTodo := rfl
@[simp] theorem applyUnlock_unlocked (s : State) : (applyUnlock s).unlocked = true := rfl
@[simp] theorem applyUnlock_activePattern (s : State) : (applyUnlock s).activePattern = s.activePattern := rfl
@[simp] theorem applyUnlock_phyPending (s : State) : (applyUnlock s).phyPending = s.phyPending := rfl
@[simp] theorem applyUnlock_out (s : State) : (applyUnlock s).out = s.out := rfl
@[simp] theorem applyUnlock_gInputMismatch (s : State) : (applyUnlock s).gInputMismatch = s.gInputMismatch := rfl
@[simp] theorem applyUnlock_gTransferOverwrite (s : State) : (applyUnlock s).gTransferOverwrite = s.gTransferOverwrite := rfl
@[simp] theorem applyUnlock_gMalformedReceive (s : State) : (applyUnlock s).gMalformedReceive = s.gMalformedReceive := rfl
@[simp] theorem applyUnlock_gRxLost (s : State) : (applyUnlock s).gRxLost = s.gRxLost := rfl
@[simp] theorem applyUnlock_gSpuriousTx (s : State) : (applyUnlock s).gSpuriousTx = s.gSpuriousTx := rfl
@[simp] theorem applyUnlock_takeResult (s : State) : (applyUnlock s).takeResult = s.takeResult := rfl
@[simp] theorem applyUnlock_stimulus (s : State) : (applyUnlock s).stimulus = s.stimulus := rfl

/-! `makeCall` (R193) -/
@[simp] theorem makeCall_scan (a b : Byte) (s : State) : (makeCall a b s).scan = s.scan := rfl
@[simp] theorem makeCall_rowN (a b : Byte) (s : State) : (makeCall a b s).rowN = s.rowN := rfl
@[simp] theorem makeCall_keyValid (a b : Byte) (s : State) : (makeCall a b s).keyValid = s.keyValid := rfl
@[simp] theorem makeCall_keyChar (a b : Byte) (s : State) : (makeCall a b s).keyChar = s.keyChar := rfl
@[simp] theorem makeCall_txIndex (a b : Byte) (s : State) : (makeCall a b s).txIndex = s.txIndex := rfl
@[simp] theorem makeCall_txAddr (a b : Byte) (s : State) : (makeCall a b s).txAddr = s.txAddr := rfl
@[simp] theorem makeCall_txPayload (a b : Byte) (s : State) : (makeCall a b s).txPayload = s.txPayload := rfl
@[simp] theorem makeCall_rxFull (a b : Byte) (s : State) : (makeCall a b s).rxFull = s.rxFull := rfl
@[simp] theorem makeCall_rxByte (a b : Byte) (s : State) : (makeCall a b s).rxByte = s.rxByte := rfl
@[simp] theorem makeCall_idleTicks (a b : Byte) (s : State) : (makeCall a b s).idleTicks = s.idleTicks := rfl
@[simp] theorem makeCall_led (a b : Byte) (s : State) : (makeCall a b s).led = s.led := rfl
@[simp] theorem makeCall_lockState (a b : Byte) (s : State) : (makeCall a b s).lockState = s.lockState := rfl
@[simp] theorem makeCall_codeIndex (a b : Byte) (s : State) : (makeCall a b s).codeIndex = s.codeIndex := rfl
@[simp] theorem makeCall_hostTodo (a b : Byte) (s : State) : (makeCall a b s).hostTodo = todoAfter a b s.hostTodo := rfl
@[simp] theorem makeCall_unlocked (a b : Byte) (s : State) : (makeCall a b s).unlocked = s.unlocked := rfl
@[simp] theorem makeCall_activePattern (a b : Byte) (s : State) : (makeCall a b s).activePattern = s.activePattern := rfl
@[simp] theorem makeCall_phyPending (a b : Byte) (s : State) : (makeCall a b s).phyPending = s.phyPending := rfl
@[simp] theorem makeCall_out (a b : Byte) (s : State) : (makeCall a b s).out = s.out := rfl
@[simp] theorem makeCall_gInputMismatch (a b : Byte) (s : State) : (makeCall a b s).gInputMismatch = s.gInputMismatch := rfl
@[simp] theorem makeCall_gTransferOverwrite (a b : Byte) (s : State) : (makeCall a b s).gTransferOverwrite = s.gTransferOverwrite := rfl
@[simp] theorem makeCall_gMalformedReceive (a b : Byte) (s : State) : (makeCall a b s).gMalformedReceive = s.gMalformedReceive := rfl
@[simp] theorem makeCall_gRxLost (a b : Byte) (s : State) : (makeCall a b s).gRxLost = s.gRxLost := rfl
@[simp] theorem makeCall_gSpuriousTx (a b : Byte) (s : State) : (makeCall a b s).gSpuriousTx = s.gSpuriousTx := rfl
@[simp] theorem makeCall_takeResult (a b : Byte) (s : State) : (makeCall a b s).takeResult = s.takeResult := rfl
@[simp] theorem makeCall_stimulus (a b : Byte) (s : State) : (makeCall a b s).stimulus = s.stimulus := rfl

/-! `State.withStimulus` -/
@[simp] theorem withStimulus_scan (s : State) (ws : List Word) : (s.withStimulus ws).scan = s.scan := rfl
@[simp] theorem withStimulus_rowN (s : State) (ws : List Word) : (s.withStimulus ws).rowN = s.rowN := rfl
@[simp] theorem withStimulus_keyValid (s : State) (ws : List Word) : (s.withStimulus ws).keyValid = s.keyValid := rfl
@[simp] theorem withStimulus_keyChar (s : State) (ws : List Word) : (s.withStimulus ws).keyChar = s.keyChar := rfl
@[simp] theorem withStimulus_txIndex (s : State) (ws : List Word) : (s.withStimulus ws).txIndex = s.txIndex := rfl
@[simp] theorem withStimulus_txAddr (s : State) (ws : List Word) : (s.withStimulus ws).txAddr = s.txAddr := rfl
@[simp] theorem withStimulus_txPayload (s : State) (ws : List Word) : (s.withStimulus ws).txPayload = s.txPayload := rfl
@[simp] theorem withStimulus_rxFull (s : State) (ws : List Word) : (s.withStimulus ws).rxFull = s.rxFull := rfl
@[simp] theorem withStimulus_rxByte (s : State) (ws : List Word) : (s.withStimulus ws).rxByte = s.rxByte := rfl
@[simp] theorem withStimulus_idleTicks (s : State) (ws : List Word) : (s.withStimulus ws).idleTicks = s.idleTicks := rfl
@[simp] theorem withStimulus_led (s : State) (ws : List Word) : (s.withStimulus ws).led = s.led := rfl
@[simp] theorem withStimulus_lockState (s : State) (ws : List Word) : (s.withStimulus ws).lockState = s.lockState := rfl
@[simp] theorem withStimulus_codeIndex (s : State) (ws : List Word) : (s.withStimulus ws).codeIndex = s.codeIndex := rfl
@[simp] theorem withStimulus_hostTodo (s : State) (ws : List Word) : (s.withStimulus ws).hostTodo = s.hostTodo := rfl
@[simp] theorem withStimulus_unlocked (s : State) (ws : List Word) : (s.withStimulus ws).unlocked = s.unlocked := rfl
@[simp] theorem withStimulus_activePattern (s : State) (ws : List Word) : (s.withStimulus ws).activePattern = s.activePattern := rfl
@[simp] theorem withStimulus_phyPending (s : State) (ws : List Word) : (s.withStimulus ws).phyPending = s.phyPending := rfl
@[simp] theorem withStimulus_out (s : State) (ws : List Word) : (s.withStimulus ws).out = s.out := rfl
@[simp] theorem withStimulus_gInputMismatch (s : State) (ws : List Word) : (s.withStimulus ws).gInputMismatch = s.gInputMismatch := rfl
@[simp] theorem withStimulus_gTransferOverwrite (s : State) (ws : List Word) : (s.withStimulus ws).gTransferOverwrite = s.gTransferOverwrite := rfl
@[simp] theorem withStimulus_gMalformedReceive (s : State) (ws : List Word) : (s.withStimulus ws).gMalformedReceive = s.gMalformedReceive := rfl
@[simp] theorem withStimulus_gRxLost (s : State) (ws : List Word) : (s.withStimulus ws).gRxLost = s.gRxLost := rfl
@[simp] theorem withStimulus_gSpuriousTx (s : State) (ws : List Word) : (s.withStimulus ws).gSpuriousTx = s.gSpuriousTx := rfl
@[simp] theorem withStimulus_takeResult (s : State) (ws : List Word) : (s.withStimulus ws).takeResult = s.takeResult := rfl
@[simp] theorem withStimulus_stimulus (s : State) (ws : List Word) : (s.withStimulus ws).stimulus = ws := rfl

/-! `note` (R49): it sets one ghost indicator and changes nothing else. -/
@[simp] theorem note_scan (n : Note) (s : State) : (note n s).scan = s.scan := by cases n <;> rfl
@[simp] theorem note_rowN (n : Note) (s : State) : (note n s).rowN = s.rowN := by cases n <;> rfl
@[simp] theorem note_keyValid (n : Note) (s : State) : (note n s).keyValid = s.keyValid := by cases n <;> rfl
@[simp] theorem note_keyChar (n : Note) (s : State) : (note n s).keyChar = s.keyChar := by cases n <;> rfl
@[simp] theorem note_txIndex (n : Note) (s : State) : (note n s).txIndex = s.txIndex := by cases n <;> rfl
@[simp] theorem note_txAddr (n : Note) (s : State) : (note n s).txAddr = s.txAddr := by cases n <;> rfl
@[simp] theorem note_txPayload (n : Note) (s : State) : (note n s).txPayload = s.txPayload := by cases n <;> rfl
@[simp] theorem note_rxFull (n : Note) (s : State) : (note n s).rxFull = s.rxFull := by cases n <;> rfl
@[simp] theorem note_rxByte (n : Note) (s : State) : (note n s).rxByte = s.rxByte := by cases n <;> rfl
@[simp] theorem note_idleTicks (n : Note) (s : State) : (note n s).idleTicks = s.idleTicks := by cases n <;> rfl
@[simp] theorem note_led (n : Note) (s : State) : (note n s).led = s.led := by cases n <;> rfl
@[simp] theorem note_lockState (n : Note) (s : State) : (note n s).lockState = s.lockState := by cases n <;> rfl
@[simp] theorem note_codeIndex (n : Note) (s : State) : (note n s).codeIndex = s.codeIndex := by cases n <;> rfl
@[simp] theorem note_hostTodo (n : Note) (s : State) : (note n s).hostTodo = s.hostTodo := by cases n <;> rfl
@[simp] theorem note_unlocked (n : Note) (s : State) : (note n s).unlocked = s.unlocked := by cases n <;> rfl
@[simp] theorem note_activePattern (n : Note) (s : State) : (note n s).activePattern = s.activePattern := by cases n <;> rfl
@[simp] theorem note_phyPending (n : Note) (s : State) : (note n s).phyPending = s.phyPending := by cases n <;> rfl
@[simp] theorem note_out (n : Note) (s : State) : (note n s).out = s.out := by cases n <;> rfl
@[simp] theorem note_takeResult (n : Note) (s : State) : (note n s).takeResult = s.takeResult := by cases n <;> rfl
@[simp] theorem note_stimulus (n : Note) (s : State) : (note n s).stimulus = s.stimulus := by cases n <;> rfl
@[simp] theorem note_gInputMismatch (n : Note) (s : State) : (note n s).gInputMismatch = (s.gInputMismatch || n == .inputMismatch) := by
  cases n <;> simp [note]
@[simp] theorem note_gTransferOverwrite (n : Note) (s : State) : (note n s).gTransferOverwrite = (s.gTransferOverwrite || n == .transferOverwrite) := by
  cases n <;> simp [note]
@[simp] theorem note_gMalformedReceive (n : Note) (s : State) : (note n s).gMalformedReceive = (s.gMalformedReceive || n == .malformedReceive) := by
  cases n <;> simp [note]
@[simp] theorem note_gRxLost (n : Note) (s : State) : (note n s).gRxLost = (s.gRxLost || n == .rxLost) := by
  cases n <;> simp [note]
@[simp] theorem note_gSpuriousTx (n : Note) (s : State) : (note n s).gSpuriousTx = (s.gSpuriousTx || n == .spuriousTx) := by
  cases n <;> simp [note]

/-- The stimulus is no part of the node (R10). -/
@[simp] theorem withStimulus_toNode (s : State) (ws : List Word) : (s.withStimulus ws).toNode = s.toNode := rfl

/-- The indicator of a note is set after it (R49). -/
@[simp] theorem noted_note (n : Note) (s : State) : noted n (note n s) = true := by cases n <;> rfl

end Sys2Proof.Machine
end

