-- ==== Sys2Proof/Machine/Ports.lean ====
section
/-! DEFINITION. The port list of R50: the output ports as a view of a step, and what a node does on each strobe of the input
ports: the operation the strobe asks for, or on `rst` the reset, which is no operation (R270). No operation reads a port
(DESIGN CHOICE, safe: assumption 18). -/

namespace Sys2Proof.Machine

/-- The output ports (R50). A strobe is paired with the value it carries. -/
structure OutPorts where
  rowN : Lines
  scanDone : Bool
  keyValid : Bool
  keyChar : Byte
  txIndex : BitVec 2
  phyStart : Option Byte
  phyTxload : Option Byte
  phyStop : Bool
  rxFull : Bool
  rxByte : Byte
  led : Bool
deriving DecidableEq, Repr

/-- The operand of the last `Start` of a list of events. -/
def lastStart (es : List OutEvent) : Option Byte :=
  es.foldl (fun acc e => match e with | .start a => some a | _ => acc) none

/-- The operand of the last `LoadTx` of a list of events. -/
def lastLoad (es : List OutEvent) : Option Byte :=
  es.foldl (fun acc e => match e with | .loadTx b => some b | _ => acc) none

/-- The ports after a step from `s` to `t`: registers from `t`, strobes from the events the step emitted. -/
def outPorts (s t : State) : OutPorts :=
  let es := t.out.drop s.out.length
  { rowN := t.rowN
    scanDone := es.any fun e => match e with | .scanDone _ => true | _ => false
    keyValid := t.keyValid
    keyChar := t.keyChar
    txIndex := txIndexBits t.txIndex
    phyStart := lastStart es
    phyTxload := lastLoad es
    phyStop := es.contains .stop
    rxFull := t.rxFull
    rxByte := t.rxByte
    led := t.led }

/-- A strobe on the input ports with its operands (R50); `scanSample` is `col_n` at a scanner step. -/
inductive InPort where
  | scanStart
  | scanSample (colN : Lines)
  | sendReq (addr data : Byte)
  | phyByteSent
  | phyByteRcvd (data : Byte)
  | rxTake
  | tick
  | actReset
  | rst
deriving DecidableEq, Repr

/-- The operation a strobe asks for; `rst` asks for none, since reset is not of the event alphabet (R270). -/
def instrOfPort : InPort → Option Instr
  | .scanStart => some .scanStart
  | .scanSample c => some (.scanStep c)
  | .sendReq a d => some (.beginSend a d)
  | .phyByteSent => some .txEvent
  | .phyByteRcvd d => some (.rxEvent d)
  | .rxTake => some .rxTake
  | .tick => some .tick
  | .actReset => some .actReset
  | .rst => none

/-- What a node with the parameters `cfg` does on a strobe: the operation it asks for, and on `rst` the reset, from every state
(R50, R51); the run ends there and another begins (R270; DESIGN CHOICE, safe: assumption 18). -/
def portStep (cfg : Config) (p : InPort) (s : State) : Result :=
  match instrOfPort p with
  | some i => execIn cfg i s
  | none => .next State.reset

end Sys2Proof.Machine
end

