-- ==== Sys2Proof/Laws/Ops.lean ====
section
/-! SUPPORT. What each shared operation can do, said once: the operand forms, the guards, and for every instruction when it
answers a next state and which. -/

namespace Sys2Proof.Machine

/-! Operand forms. -/

/-- A one-cold value reads low at its own line only (R92). -/
@[simp] theorem columnLow_oneCold (r c : Fin 4) : columnLow (oneCold r) c = decide (c = r) := by
  revert r c; decide

/-- With no line low no column reads low. -/
@[simp] theorem columnLow_rowsHigh (c : Fin 4) : columnLow rowsHigh c = false := by revert c; decide

/-- The contact found is the lowest column that reads low (R93). -/
theorem lowestZero_eq_some_iff (s : Lines) (c : Fin 4) :
    lowestZero s = some c ↔ columnLow s c = true ∧ ∀ d < c, columnLow s d = false := by
  revert s c; decide

/-- There is none exactly when every column reads high. -/
theorem lowestZero_eq_none_iff (s : Lines) : lowestZero s = none ↔ s = 0b1111#4 := by revert s; decide

@[simp] theorem lowestZero_oneCold (c : Fin 4) : lowestZero (oneCold c) = some c := by revert c; decide

@[simp] theorem lowestZero_rowsHigh : lowestZero rowsHigh = none := by decide

/-- The four column bits of a sample, one by one. -/
theorem columnLow_ofBools (x : Fin 4 → Bool) (c : Fin 4) :
    columnLow (BitVec.ofBool (!x 3) ++ BitVec.ofBool (!x 2) ++ BitVec.ofBool (!x 1) ++ BitVec.ofBool (!x 0)) c = x c := by
  fin_cases c <;> simp only [Fin.zero_eta, Fin.mk_one, Fin.reduceFinMk] <;>
    cases x 0 <;> cases x 1 <;> cases x 2 <;> cases x 3 <;> rfl

/-- A column reads low exactly when some active row has its contact with the column closed (R63). -/
theorem columnLow_sampleCols (rowN : Lines) (closed : Fin 4 → Fin 4 → Bool) (c : Fin 4) :
    columnLow (sampleCols rowN closed) c = ((columnLow rowN 0 && closed 0 c) || (columnLow rowN 1 && closed 1 c)
      || (columnLow rowN 2 && closed 2 c) || (columnLow rowN 3 && closed 3 c)) :=
  columnLow_ofBools (fun c => (columnLow rowN 0 && closed 0 c) || (columnLow rowN 1 && closed 1 c)
    || (columnLow rowN 2 && closed 2 c) || (columnLow rowN 3 && closed 3 c)) c

/-- With one row low a column reads low exactly when its contact in that row is closed. -/
theorem columnLow_sampleCols_oneCold (closed : Fin 4 → Fin 4 → Bool) (r c : Fin 4) :
    columnLow (sampleCols (oneCold r) closed) c = closed r c := by
  rw [columnLow_sampleCols]
  fin_cases r <;> simp

/-- The saturating increment never passes the maximum (R222). -/
theorem satInc_le (cfg : Config) {v : Nat} (h : v ≤ cfg.idleMax) : satInc cfg v ≤ cfg.idleMax := by
  unfold satInc; split <;> omega

/-- Below the maximum the increment is exact. -/
theorem satInc_of_lt (cfg : Config) {v : Nat} (h : v < cfg.idleMax) : satInc cfg v = v + 1 := by simp [satInc, h]

/-- The threshold is in the counter's range (R222). -/
theorem threshold_le_idleMax (cfg : Config) : cfg.threshold ≤ cfg.idleMax := cfg.threshold_le

/-! Guards. -/

/-- The host's guard lets a step through exactly outside a scan (R131). -/
theorem whenHostFree_eq_next_iff {s s' t : State} :
    whenHostFree s s' = .next t ↔ s.scan = .idle ∧ t = s' := by
  unfold whenHostFree
  by_cases h : s.scan = .idle <;> simp [h, eq_comm (a := s')]

/-- The dispatcher's guard lets a step through exactly outside a scan, or in the interrupt context (R131, R256). -/
theorem whenDispatcherFree_eq_next_iff {cfg : Config} {s s' t : State} :
    whenDispatcherFree cfg s s' = .next t ↔ dispatcherFree cfg s ∧ t = s' := by
  unfold whenDispatcherFree dispatcherFree
  by_cases h : s.scan = .idle <;> cases h' : cfg.dispatchContext <;> simp [h, eq_comm (a := s')]

/-- Outside a scan nothing holds up the dispatcher. -/
theorem dispatcherFree_of_idle {cfg : Config} {s : State} (h : s.scan = .idle) : dispatcherFree cfg s := fun _ => h

theorem whenHostFree_of_idle {s s' : State} (h : s.scan = .idle) : whenHostFree s s' = .next s' :=
  whenHostFree_eq_next_iff.mpr ⟨h, rfl⟩

/-- The call that is due leaves the list (R193). -/
@[simp] theorem todoAfter_due (a b : Byte) (rest : List SendReq) : todoAfter a b (⟨a, b⟩ :: rest) = rest := by
  simp [todoAfter]

@[simp] theorem todoAfter_head (r : SendReq) (rest : List SendReq) : todoAfter r.addr r.payload (r :: rest) = rest :=
  todoAfter_due r.addr r.payload rest

@[simp] theorem todoAfter_nil (a b : Byte) : todoAfter a b [] = [] := rfl

/-- A call takes its own entry from the head of the list, or nothing. -/
theorem todoAfter_cases (a b : Byte) (l : List SendReq) : l = ⟨a, b⟩ :: todoAfter a b l ∨ todoAfter a b l = l := by
  cases l with
  | nil => exact .inr rfl
  | cons r l => by_cases h : r = ⟨a, b⟩ <;> simp [todoAfter, h]

/-- A call adds nothing to what is owed. -/
theorem todoAfter_length_le (a b : Byte) (l : List SendReq) : (todoAfter a b l).length ≤ l.length := by
  obtain h | h := todoAfter_cases a b l
  · conv_rhs => rw [h]
    simp
  · rw [h]

/-! Each instruction: when it answers a next state, and which. -/

/-- `exec` is `execIn` at the platform's parameters. -/
theorem exec_eq_execIn (i : Instr) (s : State) : exec i s = execIn Config.platform i s := by cases i <;> rfl

theorem execScanStart_eq_next_iff {s t : State} :
    execScanStart s = .next t ↔ s.scan = .idle ∧ t = probeRow 0 s := by
  unfold execScanStart
  by_cases h : s.scan = .idle <;> simp [h, eq_comm]

theorem execScanStepIn_eq_next_iff {cfg : Config} {col : Lines} {s t : State} :
    execScanStepIn cfg col s = .next t ↔ s.scan ≠ .idle ∧ t = scanNext cfg col s := by
  unfold execScanStepIn
  by_cases h : s.scan = .idle <;> simp [h, eq_comm]

theorem execBeginSendIn_eq_next_iff {cfg : Config} {a b : Byte} {s t : State} :
    execBeginSendIn cfg a b s = .next t ↔ s.scan = .idle ∧ t = sendNext cfg a b (makeCall a b s) :=
  whenHostFree_eq_next_iff

theorem execTxEvent_eq_next_iff {s t : State} :
    execTxEvent s = .next t ↔ s.phyPending ≠ 0 ∧ t = txNext (reportSent s) := by
  unfold execTxEvent
  by_cases h : s.phyPending = 0 <;> simp [h, eq_comm]

theorem execRxTake_eq_next_iff {s t : State} :
    execRxTake s = .next t ↔ s.rxFull = true ∧ s.scan = .idle ∧
      t = { emptyMailbox s with takeResult := some s.rxByte } := by
  unfold execRxTake
  by_cases h : s.rxFull = true <;> simp [h, whenHostFree_eq_next_iff]

theorem execDispatchIn_eq_next_iff {cfg : Config} {s t : State} :
    execDispatchIn cfg s = .next t ↔ s.rxFull = true ∧
      dispatcherFree cfg s ∧ t = dispatchNext s := by
  unfold execDispatchIn
  by_cases h : s.rxFull = true <;> simp [h, whenDispatcherFree_eq_next_iff]

theorem execKeyIn_eq_next_iff {cfg : Config} {k : Byte} {s t : State} :
    execKeyIn cfg k s = .next t ↔ s.scan = .idle ∧ t = keyNext cfg k s :=
  whenHostFree_eq_next_iff

theorem execRgbRefreshIn_eq_next_iff {cfg : Config} {s t : State} :
    execRgbRefreshIn cfg s = .next t ↔ s.scan = .idle ∧
      t = emit (dutyOf cfg (colorFor cfg s.lockState)) s := whenHostFree_eq_next_iff

/-- What it takes for an instruction to answer the next state `t`, and which state that is. -/
def NextOf (cfg : Config) (i : Instr) (s t : State) : Prop :=
  match i with
  | .scanStart => s.scan = .idle ∧ t = probeRow 0 s
  | .scanStep col => s.scan ≠ .idle ∧ t = scanNext cfg col s
  | .beginSend a b => s.scan = .idle ∧ t = sendNext cfg a b (makeCall a b s)
  | .txEvent => s.phyPending ≠ 0 ∧ t = txNext (reportSent s)
  | .rxEvent b => t = landByte b s
  | .rxTake => s.rxFull = true ∧ s.scan = .idle ∧ t = { emptyMailbox s with takeResult := some s.rxByte }
  | .tick => t = tickNext cfg s
  | .actReset => dispatcherFree cfg s ∧ t = clearIdle s
  | .dispatch => s.rxFull = true ∧ dispatcherFree cfg s ∧ t = dispatchNext s
  | .key k => s.scan = .idle ∧ t = keyNext cfg k s
  | .rgbRefresh => s.scan = .idle ∧ t = emit (dutyOf cfg (colorFor cfg s.lockState)) s
  | .cmdU => dispatcherFree cfg s ∧ t = applyUnlock s
  | .cmdDigit p => dispatcherFree cfg s ∧ t = applyDigit p s
  | .cmdReserved _ => dispatcherFree cfg s ∧ t = applyReserved s
  | .frame a p => t = if ownsAddr cfg a then landByte p s else s

/-- Everything an operation can do, said once: it answers `t` exactly when `NextOf` says so. -/
theorem execIn_eq_next_iff {cfg : Config} {i : Instr} {s t : State} :
    execIn cfg i s = .next t ↔ NextOf cfg i s t := by
  cases i with
  | scanStart => exact execScanStart_eq_next_iff
  | scanStep _ => exact execScanStepIn_eq_next_iff
  | beginSend _ _ => exact execBeginSendIn_eq_next_iff
  | txEvent => exact execTxEvent_eq_next_iff
  | rxTake => exact execRxTake_eq_next_iff
  | dispatch => exact execDispatchIn_eq_next_iff
  | key _ => exact execKeyIn_eq_next_iff
  | rgbRefresh => exact execRgbRefreshIn_eq_next_iff
  | rxEvent _ => simp [execIn, execRxEvent, NextOf, eq_comm]
  | tick => simp [execIn, execTickIn, NextOf, eq_comm]
  | actReset => exact whenDispatcherFree_eq_next_iff
  | cmdU => exact whenDispatcherFree_eq_next_iff
  | cmdDigit _ => exact whenDispatcherFree_eq_next_iff
  | cmdReserved _ => exact whenDispatcherFree_eq_next_iff
  | frame a p => simp only [execIn, execFrameIn, NextOf, Host.Outcome.next.injEq, eq_comm (b := t)]

/-- A step answers a next state by running the decoded instruction, or with no event due. -/
theorem step_eq_next_iff {s t : State} :
    step s = .next t ↔ (s.stimulus = [] ∧ t = s) ∨ ∃ w rest i, s.stimulus = w :: rest ∧ decode w = .ok i ∧
      NextOf Config.platform i (s.withStimulus rest) t := by
  unfold step
  cases hs : s.stimulus with
  | nil => simp [eq_comm]
  | cons w rest =>
    cases hw : decode w with
    | error e => simp [hw]
    | ok i =>
      have hx : (match decode w with
          | .ok i => exec i (s.withStimulus rest)
          | .error e => .refused (.invalidWord e)) = execIn Config.platform i (s.withStimulus rest) := by
        rw [hw]; exact exec_eq_execIn i _
      constructor
      · intro h
        exact .inr ⟨w, rest, i, rfl, hw, execIn_eq_next_iff.mp (hx.symm.trans h)⟩
      · rintro (⟨h, -⟩ | ⟨w', rest', i', h, h', hn⟩)
        · cases h
        · cases h
          rw [hw] at h'
          cases h'
          exact hx.trans (execIn_eq_next_iff.mpr hn)

/-! Runs. -/

@[simp] theorem runIn_nil (cfg : Config) (s : State) : runIn cfg [] s = .next s := rfl

/-- A run goes on from the state its first operation answers. -/
theorem runIn_cons_of_next {cfg : Config} {i : Instr} {s t : State} (is : List Instr) (h : execIn cfg i s = .next t) :
    runIn cfg (i :: is) s = runIn cfg is t := by simp [runIn, h]

/-- A run of two lists is a run of the second from where the first ends. -/
theorem runIn_append_of_next {cfg : Config} {is js : List Instr} {s t : State} (h : runIn cfg is s = .next t) :
    runIn cfg (is ++ js) s = runIn cfg js t := by
  induction is generalizing s with
  | nil => simpa [runIn] using congrArg (fun o => match o with | .next x => runIn cfg js x | _ => runIn cfg js s) h
  | cons i is ih =>
    cases hi : execIn cfg i s with
    | next u =>
      rw [List.cons_append, runIn_cons_of_next _ hi]
      rw [runIn_cons_of_next _ hi] at h
      exact ih h
    | fault r => simp [runIn, hi] at h
    | refused r => simp [runIn, hi] at h

/-! Ports (R50). -/

/-- The reset strobe leads to the reset state from every state (R51). -/
@[simp] theorem portStep_rst (cfg : Config) (s : State) : portStep cfg .rst s = .next State.reset := rfl

/-- Only the reset strobe asks for no operation (R270). -/
theorem instrOfPort_eq_none_iff (p : InPort) : instrOfPort p = none ↔ p = .rst := by cases p <;> simp [instrOfPort]

/-- Everything a strobe can do: the reset, or what the operation it asks for does. -/
theorem portStep_eq_next_iff {cfg : Config} {p : InPort} {s t : State} :
    portStep cfg p s = .next t ↔
      (p = .rst ∧ t = State.reset) ∨ ∃ i, instrOfPort p = some i ∧ NextOf cfg i s t := by
  unfold portStep
  rw [← instrOfPort_eq_none_iff]
  cases instrOfPort p with
  | none => simp [eq_comm]
  | some i => simp [execIn_eq_next_iff]

/-! The order of the host program (R193). -/

/-- With no send owed every operation may come next. -/
theorem hostInTurn_of_nil {cfg : Config} {i : Instr} {s : State} (h : s.hostTodo = []) :
    hostInTurn cfg i s = true := by simp [hostInTurn, h]

/-- What is no step of the host may fall anywhere. -/
theorem hostInTurn_of_not_hostStep {cfg : Config} {i : Instr} {s : State} (h : hostStep cfg i = false) :
    hostInTurn cfg i s = true := by
  unfold hostInTurn
  split <;> simp [h]

/-- With a send owed, the host's own next step is that send. -/
theorem hostInTurn_of_cons {cfg : Config} {i : Instr} {s : State} {r : SendReq} {rest : List SendReq}
    (h : s.hostTodo = r :: rest) :
    hostInTurn cfg i s = true ↔ hostStep cfg i = false ∨ i = .beginSend r.addr r.payload := by
  simp [hostInTurn, h]

/-- A host trace goes on exactly with an operation that is in its turn and enabled, from the state it answers. -/
theorem runHost_cons_eq_next_iff {cfg : Config} {i : Instr} {is : List Instr} {s t : State} :
    runHost cfg (i :: is) s = .next t ↔
      hostInTurn cfg i s = true ∧ ∃ u, execIn cfg i s = .next u ∧ runHost cfg is u = .next t := by
  rw [runHost]
  cases hostInTurn cfg i s <;> cases execIn cfg i s <;> simp

/-- A trace goes on from the state its first operation answers, the operation being in its turn. -/
theorem runHost_cons_of_next {cfg : Config} {i : Instr} {s t : State} (is : List Instr)
    (ht : hostInTurn cfg i s = true) (h : execIn cfg i s = .next t) :
    runHost cfg (i :: is) s = runHost cfg is t := by simp [runHost, ht, h]

/-- A host trace that runs is a run of its operations: the order of the host adds refusals and no effect. -/
theorem runIn_of_runHost {cfg : Config} {is : List Instr} {s t : State} (h : runHost cfg is s = .next t) :
    runIn cfg is s = .next t := by
  induction is generalizing s with
  | nil => exact h
  | cons i is ih =>
    obtain ⟨-, u, hu, ht⟩ := runHost_cons_eq_next_iff.mp h
    exact (runIn_cons_of_next is hu).trans (ih ht)

end Sys2Proof.Machine
end

