-- ==== Sys2Proof/Laws/PerInstr.lean ====
section
/-! SUPPORT. Statements made per instruction, one lemma per constructor of `Instr`. -/

namespace Sys2Proof.Laws

/-- The row of spec/opcode_table.json with a mnemonic. -/
def rowNamed (m : String) : Option Row := (evwRows ++ otherRows).find? fun r => r.mnemonic == m

/-- The word lies in the row of the table that has this mnemonic. -/
def inRow (m : String) (w : Word) : Bool :=
  match rowNamed m with
  | some r => rowHolds r w
  | none => false

/-- The word the encoder writes for an instruction has the width and the fixed bits of the instruction's own row (R94, R96). -/
def EncodesToRow.Statement (i : Instr) : Prop := inRow (mnemonicOf i) (encode i) = true

theorem EncodesToRow.scanStart : EncodesToRow.Statement .scanStart := by
  unfold EncodesToRow.Statement; decide

theorem EncodesToRow.scanStep (s : Lines) : EncodesToRow.Statement (.scanStep s) := by
  unfold EncodesToRow.Statement; revert s; decide

/-- The operands of a `BEGIN_SEND` word lie below its fixed bits. -/
theorem beginSend_fixed_bits (a b : Byte) :
    (0x3#4 ++ 0#4 ++ a ++ b : BitVec 24) &&& 0xFF0000#24 = 0x300000#24 := by
  apply BitVec.eq_of_getLsbD_eq
  intro i hi
  simp only [BitVec.getLsbD_and, BitVec.getLsbD_append]
  interval_cases i <;> simp

theorem EncodesToRow.beginSend (a b : Byte) : EncodesToRow.Statement (.beginSend a b) := by
  have h := congrArg BitVec.toNat (beginSend_fixed_bits a b)
  have h' : inRow "BEGIN_SEND" (evwWord 0x3#4 a b)
      = ((0x3#4 ++ 0#4 ++ a ++ b : BitVec 24).toNat &&& 0xFF0000 == 0x300000) := rfl
  rw [BitVec.toNat_and] at h
  exact h'.trans (beq_iff_eq.mpr h)

theorem EncodesToRow.txEvent : EncodesToRow.Statement .txEvent := by
  unfold EncodesToRow.Statement; decide

theorem EncodesToRow.rxEvent (b : Byte) : EncodesToRow.Statement (.rxEvent b) := by
  unfold EncodesToRow.Statement; revert b; decide

theorem EncodesToRow.rxTake : EncodesToRow.Statement .rxTake := by
  unfold EncodesToRow.Statement; decide

theorem EncodesToRow.tick : EncodesToRow.Statement .tick := by
  unfold EncodesToRow.Statement; decide

theorem EncodesToRow.actReset : EncodesToRow.Statement .actReset := by
  unfold EncodesToRow.Statement; decide

theorem EncodesToRow.dispatch : EncodesToRow.Statement .dispatch := by
  unfold EncodesToRow.Statement; decide

theorem EncodesToRow.key (k : Byte) : EncodesToRow.Statement (.key k) := by
  unfold EncodesToRow.Statement; revert k; decide

theorem EncodesToRow.rgbRefresh : EncodesToRow.Statement .rgbRefresh := by
  unfold EncodesToRow.Statement; decide

theorem EncodesToRow.cmdU : EncodesToRow.Statement .cmdU := by
  unfold EncodesToRow.Statement; decide

theorem EncodesToRow.cmdDigit (p : BitVec 3) : EncodesToRow.Statement (.cmdDigit p) := by
  unfold EncodesToRow.Statement; revert p; decide

theorem EncodesToRow.cmdReserved (b : Byte) : EncodesToRow.Statement (.cmdReserved b) := by
  unfold EncodesToRow.Statement; revert b; decide

theorem EncodesToRow.frame (a p : Byte) : EncodesToRow.Statement (.frame a p) := by
  have h : inRow "FRAME" (.frame (a ++ p)) = ((a ++ p).toNat &&& 0 == 0) := rfl
  exact h.trans (by simp)

end Sys2Proof.Laws
end

