-- ==== Sys2Proof/Tests/Slice0.lean ====
section
/-! SUPPORT. The author's own checks: the well-formedness smoke tests, words written out bit by bit from the tables of
30_encoding.md, single steps whose results are the vectors of 95_test_vectors.md, and for every obligation with hypotheses
a state and operands that meet them. -/

namespace Sys2Proof.Machine.Tests

/-- The test parameters of 95_test_vectors.md, for the display node that owns 0x42. -/
def testCfg : Config where
  unlockCode := #v[0x31#8, 0x32#8, 0x33#8, 0x34#8]
  debounceDelay := 2
  keymap := #v[0x31#8, 0x32#8, 0x33#8, 0x41#8, 0x34#8, 0x35#8, 0x36#8, 0x42#8,
    0x37#8, 0x38#8, 0x39#8, 0x43#8, 0x2A#8, 0x30#8, 0x23#8, 0x44#8]
  period := 999
  colorLocked := ⟨196#8, 0#8, 0#8⟩
  colorEntering := ⟨255#8, 128#8, 0#8⟩
  colorUnlocked := ⟨0#8, 0#8, 255#8⟩
  colorDefault := ⟨255#8, 255#8, 255#8⟩
  ownAddrs := [0x42#8]
  dispatchContext := .mainLoop

/-- The reset state with the scanner elsewhere. -/
def scanning (sc : ScanState) : State := { State.reset with scan := sc }

/-- The reset state with the cursor elsewhere and `n` bytes in the PHY. -/
def sending (x : TxIndex) (n : Nat) : State :=
  { State.reset with txIndex := x, phyPending := n, txAddr := 0x40#8, txPayload := 0x55#8 }

/-- The reset state with a byte in the mailbox. -/
def holding (b : Byte) : State := { State.reset with rxFull := true, rxByte := b }

/-- The state with the send of `'U'` to the LCD peripheral owed. -/
def owing (s : State) : State := { s with hostTodo := [⟨0x42#8, 0x55#8⟩] }

/-- One view of the next state, if there is one. -/
def look {α : Type} (r : Result) (f : State → α) : Option α :=
  match r with
  | .next t => some (f t)
  | _ => none

/-- The reason of a refusal, if the step is refused. -/
def why (r : Result) : Option Refusal :=
  match r with
  | .refused x => some x
  | _ => none

/-! Well-formedness: what each check refuses. -/

theorem test_illformed_reserved_is_u : wellFormed (.cmdReserved 0x55#8) = false := by decide
theorem test_illformed_reserved_is_digit : wellFormed (.cmdReserved 0x30#8) = false := by decide
theorem test_wellformed_reserved_neighbours :
    wellFormed (.cmdReserved 0x2F#8) = true ∧ wellFormed (.cmdReserved 0x38#8) = true := by decide

/-! Decoding, word by word: V-ENC-1 to V-ENC-4. -/

theorem test_decode_scanStart : decode (.evw 0b0001_0000_00000000_00000000#24) = .ok .scanStart := rfl
theorem test_decode_scanStep : decode (.evw 0b0010_0000_00000000_0000_1011#24) = .ok (.scanStep 0b1011#4) := rfl
theorem test_decode_beginSend :
    decode (.evw 0b0011_0000_01000000_01010101#24) = .ok (.beginSend 0x40#8 0x55#8) := rfl
theorem test_decode_txEvent : decode (.evw 0b0100_0000_00000000_00000000#24) = .ok .txEvent := rfl
theorem test_decode_rxEvent : decode (.evw 0b0101_0000_00000000_11111111#24) = .ok (.rxEvent 0xFF#8) := rfl
theorem test_decode_rxTake : decode (.evw 0b0110_0000_00000000_00000000#24) = .ok .rxTake := rfl
theorem test_decode_tick : decode (.evw 0b0111_0000_00000000_00000000#24) = .ok .tick := rfl
theorem test_decode_actReset : decode (.evw 0b1000_0000_00000000_00000000#24) = .ok .actReset := rfl
theorem test_decode_dispatch : decode (.evw 0b1001_0000_00000000_00000000#24) = .ok .dispatch := rfl
theorem test_decode_key : decode (.evw 0b1010_0000_00000000_01000100#24) = .ok (.key 0x44#8) := rfl
theorem test_decode_rgbRefresh : decode (.evw 0b1011_0000_00000000_00000000#24) = .ok .rgbRefresh := rfl
theorem test_decode_cmdU : decode (.cmd 0b01010101#8) = .ok .cmdU := rfl
theorem test_decode_cmdDigit : decode (.cmd 0b00110_111#8) = .ok (.cmdDigit 7#3) := rfl
theorem test_decode_cmdReserved : decode (.cmd 0b10110011#8) = .ok (.cmdReserved 0xB3#8) := rfl
theorem test_decode_frame : decode (.frame 0b01000010_00110011#16) = .ok (.frame 0x42#8 0x33#8) := rfl

/-- V-ENC-2: an operation code that is reserved. -/
theorem test_decode_reserved_op : decode (.evw 0x000000#24) = .error .reservedOp ∧
    decode (.evw 0xC00000#24) = .error .reservedOp := ⟨rfl, rfl⟩

/-- V-ENC-2: bits 19:16 nonzero. -/
theorem test_decode_z : decode (.evw 0x110000#24) = .error .zNonzero ∧
    decode (.evw 0x314055#24) = .error .zNonzero := ⟨rfl, rfl⟩

/-- V-ENC-2: an operand bit that must be zero. -/
theorem test_decode_operand : decode (.evw 0x100001#24) = .error .operandNonzero ∧
    decode (.evw 0x200010#24) = .error .operandNonzero ∧ decode (.evw 0x200100#24) = .error .operandNonzero ∧
    decode (.evw 0x400001#24) = .error .operandNonzero ∧ decode (.evw 0x500155#24) = .error .operandNonzero ∧
    decode (.evw 0xA00131#24) = .error .operandNonzero := ⟨rfl, rfl, rfl, rfl, rfl, rfl⟩

/-- The table's numbering: a 24-bit, an 8-bit and a 16-bit row. -/
theorem test_table_words : decodeTableWord 24 0x304055 = some (.beginSend 0x40#8 0x55#8) ∧
    decodeTableWord 8 0x33 = some (.cmdDigit 3#3) ∧ decodeTableWord 16 0x4055 = some (.frame 0x40#8 0x55#8) ∧
    decodeTableWord 32 0 = none := ⟨rfl, rfl, rfl, rfl⟩

/-- V-ENC-3: 1 value is `CMD_U`, 8 are digits, 247 are reserved. -/
theorem test_command_counts :
    ((List.range 256).countP fun n => decodeCommand (BitVec.ofNat 8 n) == .unlock) = 1 ∧
    ((List.range 256).countP fun n => decodeCommand (BitVec.ofNat 8 n) == .reserved) = 247 := by decide +kernel

/-- V-ENC-5: key positions. -/
theorem test_keyAt : keyAt testCfg 0 0 = 0x31#8 ∧ keyAt testCfg 1 2 = 0x36#8 ∧ keyAt testCfg 2 2 = 0x39#8 ∧
    keyAt testCfg 3 1 = 0x30#8 ∧ keyAt testCfg 3 3 = 0x44#8 := by decide

/-- V-RGB-1. -/
theorem test_toDutyCycle : toDutyCycle 196#8 999 = 768 ∧ toDutyCycle 1#8 999 = 4 ∧ toDutyCycle 127#8 999 = 498 ∧
    toDutyCycle 196#8 100 = 77 ∧ toDutyCycle 128#8 1 = 1 ∧ toDutyCycle 255#8 65535 = 65535 := by decide

/-! Single steps. -/

/-- V-SC-1. -/
theorem test_scanStart : look (exec .scanStart State.reset) (fun t => (t.scan, t.rowN)) =
    some (.probe 0, 0b1110#4) := by decide
/-- V-SC-11: a second `SCAN_START`. -/
theorem test_scanStart_twice : why (exec .scanStart (scanning (.probe 0))) = some .scanRunning := by decide
/-- V-SC-3: the lowest low column wins. -/
theorem test_scanStep_probe : look (execIn testCfg (.scanStep 0b0101#4) (scanning (.probe 0))) (·.scan) =
    some (.settle 0 1 2) := by decide
/-- V-SC-7: another column low does not hold the wait. -/
theorem test_scanStep_wait : look (execIn testCfg (.scanStep 0b1110#4) (scanning (.wait 1 2 0)))
    (fun t => (t.scan, t.keyValid, t.out)) = some (.idle, true, [.scanDone (some 0x36#8)]) := by decide
/-- V-TX-2. -/
theorem test_beginSend_overwrite : look (execIn testCfg (.beginSend 0x42#8 0x33#8) (sending .addrSent 1))
    (fun t => (t.txAddr, t.txPayload, t.out, t.gTransferOverwrite)) = some (0x42#8, 0x33#8, [], true) := by decide
/-- V-TX-5. -/
theorem test_beginSend_done : look (execIn testCfg (.beginSend 0x42#8 0x33#8) (sending .done 1))
    (fun t => (t.txIndex, t.phyPending, t.out)) = some (.addrSent, 2, [.start 0x42#8]) := by decide
/-- V-SRC-G. -/
theorem test_txEvent_load : look (exec .txEvent (sending .addrSent 1))
    (fun t => (t.txIndex, t.phyPending, t.out)) = some (.done, 1, [.loadTx 0x55#8]) := by decide
/-- V-TX-4b: the spurious event. -/
theorem test_txEvent_spurious : look (exec .txEvent (sending .idle 1))
    (fun t => (t.txIndex, t.phyPending, t.gSpuriousTx)) = some (.idle, 0, true) := by decide
/-- V-RX-2. -/
theorem test_rxEvent_overwrites : look (exec (.rxEvent 0x33#8) (holding 0x55#8))
    (fun t => (t.rxByte, t.rxFull, t.gRxLost)) = some (0x33#8, true, true) := by decide
/-- V-RX-1. -/
theorem test_rxTake : look (exec .rxTake (holding 0x55#8))
    (fun t => (t.takeResult, t.rxFull, t.rxByte)) = some (some 0x55#8, false, 0x55#8) := by decide
/-- V-HB-1: the first dark tick. -/
theorem test_tick_onset : look (execIn testCfg .tick { State.reset with idleTicks := 2 })
    (fun t => (t.idleTicks, t.led)) = some (3, false) := by decide
/-- V-HB-5. -/
theorem test_tick_saturates : look (execIn testCfg .tick { State.reset with idleTicks := 65535, led := false })
    (fun t => (t.idleTicks, t.led)) = some (65535, true) := by decide
/-- V-HB-1: the activity reset does not touch the LED. -/
theorem test_actReset : look (exec .actReset { State.reset with idleTicks := 5, led := false })
    (fun t => (t.idleTicks, t.led)) = some (0, false) := by decide
/-- R131 holds up the activity reset of a polled dispatcher; sends owed do not (R223), but a trace of the host has it out of turn
(R193). -/
theorem test_actReset_polled : why (execIn testCfg .actReset (scanning (.probe 0))) = some .hostInsideScan ∧
    look (execIn testCfg .actReset { State.reset with hostTodo := [⟨0x42#8, 0x55#8⟩], idleTicks := 2 }) (·.idleTicks) =
      some 0 ∧
    why (runTrace testCfg [.evw 0x800000#24] { State.reset with hostTodo := [⟨0x42#8, 0x55#8⟩] }) =
      some .sendsPending := by decide
/-- R121, R169, R161: sends owed hold up no operation, and a call that is not the one due leaves them owed; in a trace of the host
each is out of turn (R193). -/
theorem test_sends_owed_order_the_host_only :
    look (exec .scanStart (owing State.reset)) (·.scan) = some (.probe 0) ∧
    look (exec .rxTake (owing (holding 0x55#8))) (fun t => (t.takeResult, t.rxFull)) = some (some 0x55#8, false) ∧
    look (exec (.beginSend 0x40#8 0x33#8) (owing State.reset)) (fun t => (t.txPayload, t.hostTodo)) =
      some (0x33#8, [⟨0x42#8, 0x55#8⟩]) ∧
    look (exec (.beginSend 0x42#8 0x55#8) (owing State.reset)) (·.hostTodo) = some [] ∧
    why (runTrace testCfg [.evw 0x100000#24] (owing State.reset)) = some .sendsPending ∧
    why (runTrace testCfg [.evw 0x304033#24] (owing State.reset)) = some .sendsPending ∧
    look (runTrace testCfg [.evw 0x700000#24, .evw 0x304255#24] (owing State.reset)) (·.txAddr) = some 0x42#8 := by
  decide
/-- V-SRC-D, V-SRC-H. -/
theorem test_dispatch_locked : look (execIn testCfg .dispatch { holding 0x37#8 with idleTicks := 2 })
    (fun t => (t.idleTicks, t.activePattern, t.out, t.rxFull)) = some (0, 0#3, [], false) := by decide
/-- V-SRC-C. -/
theorem test_dispatch_unlocked : look (execIn testCfg .dispatch { holding 0x33#8 with unlocked := true })
    (fun t => (t.activePattern, t.out)) = some (3#3, [.render 3#3]) := by decide
/-- V-SRC-A. -/
theorem test_key_last : look (execIn testCfg (.key 0x34#8) { State.reset with lockState := .entering, codeIndex := 3 })
    (fun t => (t.lockState, t.codeIndex, t.hostTodo)) =
      some (.unlocked, 0, [⟨0x40#8, 0x55#8⟩, ⟨0x42#8, 0x55#8⟩]) := by decide
/-- V-SRC-B. -/
theorem test_key_wrong : look (execIn testCfg (.key 0x39#8) { State.reset with lockState := .entering, codeIndex := 2 })
    (fun t => (t.lockState, t.codeIndex, t.gInputMismatch)) = some (.locked, 0, true) := by decide
/-- V-RGB-2. -/
theorem test_rgbRefresh : look (execIn testCfg .rgbRefresh { State.reset with lockState := .entering }) (·.out) =
    some [.duty 999 501 0] := by decide
/-- R207. -/
theorem test_cmdU : look (exec .cmdU State.reset) (fun t => (t.unlocked, t.idleTicks)) = some (true, 0) := by decide
/-- V-CMD-6. -/
theorem test_cmdDigit : look (exec (.cmdDigit 7#3) { State.reset with unlocked := true }) (·.out) =
    some [.render 7#3] := by decide
/-- V-CMD-4. -/
theorem test_cmdReserved : look (exec (.cmdReserved 0x39#8) State.reset) (·.gMalformedReceive) = some true := by
  decide
/-- P3, case (a) and case (b): a frame to another node and a frame to this one. -/
theorem test_frame : look (execIn testCfg (.frame 0x40#8 0x55#8) State.reset) (·.rxFull) = some false ∧
    look (execIn testCfg (.frame 0x42#8 0x55#8) State.reset) (·.rxByte) = some 0x55#8 := by decide

/-- The interface: the placed word is the very next instruction, with nothing left over. -/
theorem test_withFetchWord : look (step (State.reset.withFetchWord 24 0x5000FF))
    (fun t => (t.rxByte, t.stimulus)) = some (0xFF#8, []) := by decide
/-- A placed command byte and a placed frame are fetched in their own formats. -/
theorem test_withFetchWord_cmd : look (step (State.reset.withFetchWord 8 0x55)) (·.unlocked) = some true ∧
    (State.reset.withFetchWord 16 0x4255).stimulus = [.frame 0x4255#16] := by decide
/-- The ports after V-SRC-G's second step. -/
theorem test_outPorts : (outPorts State.reset { sending .done 1 with out := [.loadTx 0x55#8] }).phyTxload =
    some 0x55#8 ∧ (outPorts State.reset (sending .done 1)).txIndex = 2#2 := by decide
/-- R50, R51: the reset strobe in mid-transfer, and what the ports show after it; a strobe that asks for an operation. -/
theorem test_portStep : look (portStep testCfg .rst (sending .done 1)) id = some State.reset ∧
    (outPorts (sending .done 1) State.reset).txIndex = 0#2 ∧ (outPorts (sending .done 1) State.reset).rowN = 0b1111#4 ∧
    look (portStep testCfg (.phyByteRcvd 0x55#8) State.reset) (·.rxByte) = some 0x55#8 := by decide

/-! Witnesses: values that meet the hypotheses of the obligation of that name. -/

theorem witness_StepRunsTheDecodedInstruction :
    (State.reset.withStimulus [.evw 0x100000#24]).stimulus = [.evw 0x100000#24] ∧
    decode (.evw 0x100000#24) = .ok .scanStart ∧ decode (.evw 0x000000#24) = .error .reservedOp ∧
    State.reset.stimulus = [] := ⟨rfl, rfl, rfl, rfl⟩

theorem witness_DecodeOfEncode : Instr.WellFormed (.cmdReserved 0xFF#8) ∧ Instr.WellFormed (.scanStep 0#4) := by decide

theorem witness_EncodeOfDecode : decode (.cmd 0x37#8) = .ok (.cmdDigit 7#3) ∧
    decode (.evw 0x30FF00#24) = .ok (.beginSend 0xFF#8 0x00#8) := ⟨rfl, rfl⟩

theorem witness_EventWordsFollowTheTable : decode (.evw 0x20000F#24) = .ok (.scanStep 0b1111#4) ∧
    (⟨"SCAN_STEP", 24, 0xFFFFF0, 0x200000⟩ : Row) ∈ evwRows := ⟨rfl, by decide⟩

theorem witness_PatternIndexOfACommandByte : (0x30#8).toNat / 8 = 0b00110 ∧ (0x37#8).toNat / 8 = 0b00110 := by decide

theorem witness_TracesAreRefusedWhole :
    (Word.evw 0x110000#24 ∈ [Word.evw 0x700000#24, .evw 0x110000#24] ∧
      decode (.evw 0x110000#24) = .error .zNonzero) ∧
    runTrace testCfg [.evw 0x800000#24] State.reset = .next State.reset := ⟨⟨by decide, rfl⟩, rfl⟩

theorem witness_ScanStartBeginsAScan : State.reset.scan = .idle ∧ (owing State.reset).scan = .idle ∧
    (scanning (.probe 3)).scan ≠ .idle := by decide

theorem witness_ScanStepProbesARow :
    ((scanning (.probe 0)).scan = .probe 0 ∧ (0b0111#4).getLsbD (3 : Fin 4).val = false ∧
      ∀ d : Fin 4, d < 3 → (0b0111#4).getLsbD d.val = true) ∧
    ((0b0000#4).getLsbD (0 : Fin 4).val = false ∧ ∀ d : Fin 4, d < 0 → (0b0000#4).getLsbD d.val = true) ∧
    ((scanning (.probe 2)).scan = .probe 2 ∧ (3 : Fin 4).val = (2 : Fin 4).val + 1) ∧
    (scanning (.probe 3)).scan = .probe 3 ∧ State.reset.scan = .idle := by decide

theorem witness_ScanStepSettles : (scanning (.settle 3 3 1)).scan = .settle 3 3 1 ∧ 1 ≤ 1 := by decide

theorem witness_ScanStepWaitsForRelease : (scanning (.wait 3 3 0)).scan = .wait 3 3 0 ∧
    (0b1000#4).getLsbD (3 : Fin 4).val = true ∧ (0b0111#4).getLsbD (3 : Fin 4).val = false := by decide

theorem witness_SettleLastsTheDebounceDelay : (scanning (.probe 3)).scan = .probe 3 ∧
    lowestZero 0b0111#4 = some 3 ∧ ([0b1111#4, 0b0000#4] : List Lines).length ≤ testCfg.debounceDelay ∧
    ([] : List Lines).length ≤ testCfg.debounceDelay := by decide

theorem witness_ScanNoneFindsNoKey : State.reset.scan = .idle ∧ (owing State.reset).scan = .idle := by decide

theorem witness_PressYieldsItsKeyOnce : testCfg.releaseTimeout = none ∧ State.reset.scan = .idle := by decide

theorem witness_HeldKeyEndsOnlyAtTheTimeout : (scanning (.wait 3 3 0)).scan = .wait 3 3 0 ∧
    (∀ col ∈ [0b0111#4, 0b0000#4], col.getLsbD (3 : Fin 4).val = false) ∧ testCfg.releaseTimeout = none ∧
    { testCfg with releaseTimeout := some 3 }.releaseTimeout = some 3 ∧ ([0b0111#4, 0b0000#4] : List Lines).length < 3 ∧
    { testCfg with releaseTimeout := some 2 }.releaseTimeout = some 2 ∧ 1 ≤ 2 ∧
    ([0b0111#4, 0b0000#4] : List Lines).length = 2 := by decide

/-- Only the contact of the last position is closed. -/
def onlyLast (r c : Fin 4) : Bool := r == 3 && c == 3

/-- No contact is closed. -/
def noContact (_ _ : Fin 4) : Bool := false

theorem witness_ScanReturnsTheFirstContact :
    execIn testCfg .scanStart State.reset = .next (probeRow 0 State.reset) ∧
    (onlyLast 3 3 = true ∧ ∀ r' c' : Fin 4, onlyLast r' c' = true →
      4 * (3 : Fin 4).val + (3 : Fin 4).val ≤ 4 * r'.val + c'.val) ∧
    ∀ r c : Fin 4, noContact r c = false := ⟨rfl, by decide, by decide⟩

theorem witness_RowDriveFollowsTheScanner : rowsFollowScan (State.reset.withStimulus [.evw 0x100000#24]) ∧
    step (State.reset.withStimulus [.evw 0x100000#24]) = .next (probeRow 0 State.reset) := ⟨rfl, rfl⟩

theorem witness_ScanBlocksTheHostOnly : (scanning (.wait 0 0 0)).scan ≠ .idle ∧
    hostStep testCfg (.key 0x31#8) = true ∧
    { scanning (.wait 0 0 0) with phyPending := 1 }.phyPending ≠ 0 := by decide

theorem witness_BeginSendByCursor : State.reset.scan = .idle ∧ State.reset.hostTodo.head? = none ∧
    (owing State.reset).hostTodo.head? = some ⟨0x42#8, 0x55#8⟩ ∧
    State.reset.txIndex = .idle ∧ (sending .done 1).txIndex = .done ∧
    (sending .addrSent 1).txIndex = .addrSent := by decide

theorem witness_BeginSendTurnedAway : (scanning (.probe 0)).scan ≠ .idle ∧ (owing State.reset).scan = .idle ∧
    (owing State.reset).hostTodo = ⟨0x42#8, 0x55#8⟩ :: [] ∧
    (⟨0x42#8, 0x55#8⟩ : SendReq) ≠ ⟨0x40#8, 0x55#8⟩ := by decide

theorem witness_TxEventByCursor : (sending .idle 1).phyPending ≠ 0 ∧ State.reset.phyPending = 0 := by decide

theorem witness_UndisturbedFrame : (owing State.reset).scan = .idle ∧ (owing State.reset).txIndex = .idle ∧
    State.reset.hostTodo = [] := by decide

theorem witness_HybridFrameOnOverwrite : testCfg.overwritePolicy = .bufferOnly ∧ State.reset.scan = .idle ∧
    State.reset.txIndex = .idle := by decide

theorem witness_PairedSends : testCfg.overwritePolicy = .bufferOnly ∧ State.reset.scan = .idle ∧
    State.reset.txIndex = .idle ∧
    todoAfter testCfg.addrLcd 0x55#8 (todoAfter testCfg.addrLed 0x55#8 (bothSends testCfg 0x55#8)) = [] := by decide

theorem witness_OnlyTxEventFreesTheTransmitter :
    look (exec .txEvent (sending .done 1)) (·.txIndex) = some .idle ∧ (sending .done 1).txIndex ≠ .idle := by decide

theorem witness_TransmitOrderIsKept :
    TxOrder Config.platform (State.reset.withStimulus [.evw 0x304055#24]) ∧
    look (step (State.reset.withStimulus [.evw 0x304055#24])) (·.txIndex) = some .addrSent := ⟨rfl, rfl⟩

theorem witness_PhyPendingCountsBytes :
    look (exec .txEvent (sending .addrSent 1)) (·.phyPending) = some 1 := by decide

theorem witness_PollingTheCursorAvoidsOverwrite :
    look (exec (.beginSend 0x40#8 0x55#8) State.reset) (·.phyPending) = some 1 ∧
    ∀ a b : Byte, Instr.beginSend 0x40#8 0x55#8 = .beginSend a b → State.reset.txIndex = .idle := by
  exact ⟨rfl, fun _ _ _ => rfl⟩

theorem witness_LostByteSentEventWedges : Instr.txEvent ∉ [Instr.beginSend 0x42#8 0x33#8, .tick] ∧
    look (runIn testCfg [.beginSend 0x42#8 0x33#8, .tick] (sending .addrSent 1)) (·.txIndex) = some .addrSent ∧
    look (runIn testCfg [.beginSend 0x42#8 0x33#8, .tick] (sending .done 1)) (·.txIndex) = some .addrSent ∧
    (sending .done 1).txIndex ≠ .idle ∧ testCfg.overwritePolicy = .bufferOnly ∧
    (sending .addrSent 1).txIndex = .addrSent := by decide

theorem witness_RxTakeEmptiesTheMailbox : (owing (holding 0x55#8)).rxFull = true ∧
    (owing (holding 0x55#8)).scan = .idle ∧ { holding 0x55#8 with scan := .probe 3 }.rxFull = true ∧
    { holding 0x55#8 with scan := .probe 3 }.scan ≠ .idle ∧ State.reset.rxFull = false := by decide

theorem witness_OnsetOfBlinking : State.reset.idleTicks = 0 ∧ State.reset.led = true ∧ 2 ≤ testCfg.threshold ∧
    1 ≤ 1 := by decide

theorem witness_SaturationIsNotObservable :
    { State.reset with idleTicks := 65535 }.idleTicks ≤ testCfg.idleMax ∧
    dispatcherFree testCfg { State.reset with idleTicks := 65535 } := ⟨by decide, fun _ => rfl⟩

theorem witness_DarkLedLagsActivity : 2 ≤ testCfg.threshold ∧ { State.reset with led := false }.led = false ∧
    Instr.tick ∉ [Instr.rxEvent 0x55#8, .dispatch] ∧
    look (runIn testCfg [.actReset, .rxEvent 0x55#8, .dispatch] { State.reset with led := false }) (·.led) =
      some false := by decide

theorem witness_TickAndDispatchInEitherOrder : (holding 0x55#8).rxFull = true ∧ (holding 0x55#8).scan = .idle ∧
    2 ≤ testCfg.threshold := by decide

/-- No byte is its own complement, so a wrong key exists whatever the code is. -/
theorem complement_ne (x : Byte) : ~~~x ≠ x := by revert x; decide +kernel

/-- The reset state with the code entered up to a position. -/
def entered (j : Fin 4) : State := { State.reset with lockState := .entering, codeIndex := j }

/-- The four clauses of `KeyByLockState`, in order. -/
theorem witness_KeyByLockState :
    ((entered 3).scan = .idle ∧ (entered 3).lockState ≠ .unlocked ∧
      Config.platform.unlockCode[(3 : Fin 4)] = Config.platform.unlockCode[(entered 3).codeIndex] ∧
      (entered 3).codeIndex = 3) ∧
    ((entered 2).lockState ≠ .unlocked ∧
      Config.platform.unlockCode[(2 : Fin 4)] = Config.platform.unlockCode[(entered 2).codeIndex] ∧
      (3 : Fin 4).val = (entered 2).codeIndex.val + 1) ∧
    (State.reset.lockState ≠ .unlocked ∧
      ~~~Config.platform.unlockCode[(0 : Fin 4)] ≠ Config.platform.unlockCode[State.reset.codeIndex]) ∧
    { State.reset with lockState := .unlocked }.lockState = .unlocked :=
  ⟨⟨rfl, by decide, rfl, rfl⟩, ⟨by decide, rfl, rfl⟩, ⟨by decide, complement_ne _⟩, rfl⟩

theorem witness_HostOperationsTurnedAway : (scanning (.probe 0)).scan ≠ .idle ∧ (holding 0#8).rxFull = true ∧
    (owing State.reset).scan = .idle ∧ (owing State.reset).hostTodo = ⟨0x42#8, 0x55#8⟩ :: [] ∧
    hostStep testCfg .scanStart = true ∧ Instr.scanStart ≠ .beginSend 0x42#8 0x55#8 ∧
    hostStep testCfg .dispatch = true ∧ hostStep testCfg .tick = false ∧
    look (execIn testCfg .tick (owing State.reset)) (·.idleTicks) = some 1 := by decide

theorem witness_UnlockCodeUnlocks : State.reset.scan = .idle ∧
    State.reset.lockState = .locked ∧ State.reset.codeIndex = 0 := by decide

theorem witness_RgbRefreshEmitsDuty : State.reset.scan = .idle ∧ (owing State.reset).scan = .idle := by decide

theorem witness_ActResetClearsTheCount : (owing State.reset).scan = .idle ∧
    { testCfg with dispatchContext := .interrupt }.dispatchContext = .interrupt ∧
    testCfg.dispatchContext = .mainLoop ∧ (scanning (.probe 0)).scan ≠ .idle := by decide

theorem witness_CommandBytes : State.reset.scan = .idle ∧
    { testCfg with dispatchContext := .interrupt }.dispatchContext = .interrupt ∧
    testCfg.dispatchContext = .mainLoop ∧ (scanning (.wait 3 3 0)).scan ≠ .idle := by decide

theorem witness_DutyCycleRounds : (1#8 : Byte) ≤ 1#8 ∧ (767 : Int) ≠ toDutyCycle 196#8 999 := by decide

theorem witness_DispatchByCommand : (holding 0x55#8).rxFull = true ∧ (holding 0x55#8).scan = .idle ∧
    State.reset.rxFull = false := by decide

theorem witness_DispatchContextMatters :
    { testCfg with dispatchContext := .interrupt }.dispatchContext = .interrupt ∧
    testCfg.dispatchContext = .mainLoop ∧ { holding 0#8 with scan := .probe 0 }.scan ≠ .idle ∧
    { holding 0#8 with scan := .probe 0 }.rxFull = true := by decide

theorem witness_UnlockByteIsIdempotent : State.reset.scan = .idle := by decide

theorem witness_UnlockedIsNeverCleared :
    step ({ State.reset with unlocked := true }.withStimulus [.evw 0x800000#24]) =
      .next { State.reset with unlocked := true } ∧ { State.reset with unlocked := true }.unlocked = true :=
  ⟨rfl, rfl⟩

theorem witness_PatternChangesOnlyWhileUnlocked :
    look (exec (.cmdDigit 5#3) { State.reset with unlocked := true }) (·.activePattern) = some 5#3 ∧
    (5#3 : BitVec 3) ≠ { State.reset with unlocked := true }.activePattern := by decide

theorem witness_MainLoopIterationCompletes : State.reset.scan = .idle ∧ State.reset.hostTodo = [] ∧
    testCfg.releaseTimeout = none := by decide

theorem witness_NodeInvariantIsKept :
    NodeInv Config.platform (State.reset.withStimulus [.evw 0x100000#24]) ∧
    step (State.reset.withStimulus [.evw 0x100000#24]) = .next (probeRow 0 State.reset) ∧
    noSendOwedInScan State.reset ∧ runHost Config.platform [.scanStart] State.reset = .next (probeRow 0 State.reset) :=
  ⟨⟨rfl, trivial, Nat.zero_le _, by unfold cursorFollowsLock; decide, by decide, fun h => absurd rfl h,
    fun _ => ⟨rfl, by decide⟩⟩, rfl, fun h => absurd rfl h, rfl⟩

theorem witness_InterruptStepsAreNarrow : interruptStep .tick = true ∧
    exec .tick State.reset = .next (tickNext Config.platform State.reset) ∧ interruptStep .txEvent = true ∧
    look (exec .txEvent (sending .done 1)) (·.phyPending) = some 0 := ⟨rfl, rfl, rfl, rfl⟩

theorem witness_GhostsAreStickyAndUnread :
    exec .actReset { State.reset with gRxLost := true } = .next { State.reset with gRxLost := true } ∧
    noted .rxLost { State.reset with gRxLost := true } = true := ⟨rfl, rfl⟩

theorem witness_NodeIsClosedUnderOperations :
    execIn testCfg .actReset State.reset = .next State.reset ∧
    execIn testCfg .rxTake State.reset = .refused .mailboxEmpty := ⟨rfl, rfl⟩

/-- A system in which one payload is on its way to the only receiver. -/
def linkedPair : System where
  params := testCfg
  past := []
  controller := { State.reset with out := [.start 0x42#8, .loadTx 0x55#8, .stop] }
  receivers := [⟨testCfg, State.reset, 0, []⟩]

theorem witness_ReceiversSeeOnlyWhatWasSent : SysInv linkedPair ∧
    (sysStep linkedPair (.deliver 0 0)).map (fun y => y.receivers.map fun r => (r.got, r.node.rxByte)) =
      some [([0x55#8], 0x55#8)] ∧
    ([.start 0x40#8, .loadTx 0x33#8, .stop] : List OutEvent).getLast? = some .stop ∧
    (∀ e ∈ ([.scanDone none] : List OutEvent), ∀ c, e ≠ .start c) ∧
    ∀ e ∈ ([.duty 1 2 3] : List OutEvent), e ≠ .stop ∧ ∀ c, e ≠ .start c := by
  refine ⟨?_, by decide, by decide, ?_, ?_⟩
  · intro r hr
    rw [List.mem_singleton.mp hr]
    exact ⟨Nat.zero_le _, List.Sublist.refl _, fun h => absurd h (by decide)⟩
  · intro e he c
    rw [List.mem_singleton.mp he]
    simp
  · intro e he
    rw [List.mem_singleton.mp he]
    exact ⟨by decide, fun c => by simp⟩

/-- The pair with the receiver unlocked. -/
def unlockedPair : System := { linkedPair with receivers := [⟨testCfg, { State.reset with unlocked := true }, 0, []⟩] }

theorem witness_ResetOfOneNodeLeavesTheOthers :
    (unlockedPair.receivers[0]?).map (fun r => r.node.unlocked) = some true ∧
    (sysStep unlockedPair .resetController).map (fun y => y.receivers.map fun r => r.node.unlocked) = some [true] ∧
    (sysStep unlockedPair (.resetReceiver 0)).map (fun y => y.receivers.map fun r => r.node.unlocked) =
      some [false] ∧
    SysEvent.resetController ≠ .resetReceiver 0 := by decide

end Sys2Proof.Machine.Tests
end

/-! The encoding family: the pattern index of a command byte (R98) and the pseudo-operations `SCAN_NONE` (R110) and
`FRAME_OK` (R112). -/

namespace Sys2Proof

/-! Command bytes (R94, R98). -/

/-- A byte in the digit row is a digit whatever its index; the row before it, 0x55, is no digit byte. -/
theorem decodeCommand_of_digitRow {b : Byte} (h : b.extractLsb' 3 5 = 0b00110#5) :
    decodeCommand b = .digit (b.extractLsb' 0 3) := by
  have hU : b ≠ 0x55#8 := by
    rintro rfl
    exact absurd h (by decide)
  simp [decodeCommand, hU, h]

/-- Bits 7:3 of a byte as a number. -/
theorem toNat_extractLsb'_high (b : Byte) : (b.extractLsb' 3 5).toNat = b.toNat / 8 := by
  have hb := b.isLt
  rw [BitVec.extractLsb'_toNat, Nat.shiftRight_eq_div_pow]
  omega

/-- Settles O6: the digit row is the bytes 0x30 to 0x37, so the quotient by 8 is fixed and the remainder is the index. -/
theorem patternIndexOfACommandByte : Obligations.PatternIndexOfACommandByte := by
  refine ⟨fun b hb => ?_, by decide, by decide⟩
  have hrow : b.extractLsb' 3 5 = 0b00110#5 := BitVec.eq_of_toNat_eq ((toNat_extractLsb'_high b).trans hb)
  have hlow : (b.extractLsb' 0 3).toNat = b.toNat % 8 := BitVec.extractLsb'_toNat 0 3 b
  exact ⟨_, decodeCommand_of_digitRow hrow, hlow, by omega⟩

end Sys2Proof

namespace Sys2Proof.Machine

/-! Probes that find no contact (R123). -/

/-- A sample with no line low moves the probe to the next row, or ends the scan with no key after row 3. -/
theorem execIn_scanStep_rowsHigh_probeRow (cfg : Config) (r : Fin 4) (s : State) :
    execIn cfg (.scanStep rowsHigh) (probeRow r s) =
      .next (if r = 3 then finishNoKey s else probeRow (r + 1) s) := by
  refine execIn_eq_next_iff.mpr ⟨by simp, ?_⟩
  simp only [scanNext, probeRow_scan, probeNext, lowestZero_rowsHigh]
  rfl

/-- `n` samples with no line low take a scan from row 0 to row `n`. -/
theorem runIn_replicate_rowsHigh (cfg : Config) (s : State) (n : Nat) (hn : n < 4) :
    runIn cfg (List.replicate n (.scanStep rowsHigh)) (probeRow 0 s) = .next (probeRow ⟨n, hn⟩ s) := by
  induction n with
  | zero => rfl
  | succ n ih =>
    have hrow : (⟨n, by omega⟩ : Fin 4) ≠ 3 := Fin.ne_of_val_ne (by simp; omega)
    have hnext : (⟨n, by omega⟩ : Fin 4) + 1 = ⟨n + 1, hn⟩ := Fin.ext (by simp [Fin.val_add]; omega)
    rw [List.replicate_succ', runIn_append_of_next (ih (by omega))]
    refine runIn_cons_of_next [] ?_
    rw [execIn_scanStep_rowsHigh_probeRow, if_neg hrow, hnext]

/-- Ending with no key leaves a scanner that was idle idle. -/
theorem finishNoKey_of_idle {s : State} (h : s.scan = .idle) :
    finishNoKey s = { s with rowN := rowsHigh, keyValid := false, out := s.out ++ [.scanDone none] } := by
  simp [finishNoKey, emit, h]

/-- Settles O14: three of the four samples take the probe from row 0 to row 3, and the fourth ends the scan there. -/
theorem scanNoneFindsNoKey : Obligations.ScanNoneFindsNoKey := by
  intro cfg s hs
  refine ⟨rfl, ?_⟩
  have hexp : scanNone = .scanStart :: (List.replicate 3 (.scanStep rowsHigh) ++ [.scanStep rowsHigh]) := rfl
  have hstart : execIn cfg .scanStart s = .next (probeRow 0 s) := execIn_eq_next_iff.mpr ⟨hs, rfl⟩
  have hrows := runIn_replicate_rowsHigh cfg s 3 (by decide)
  have hend : execIn cfg (.scanStep rowsHigh) (probeRow 3 s) = .next (finishNoKey s) :=
    execIn_scanStep_rowsHigh_probeRow cfg 3 s
  rw [hexp, runIn_cons_of_next _ hstart, runIn_append_of_next hrows]
  exact (runIn_cons_of_next [] hend).trans (congrArg _ (finishNoKey_of_idle hs))

/-! The transmit cursor through one frame (R162, R165). -/

/-- A call with nothing in flight loads the buffer and starts the frame (R162). -/
theorem execIn_beginSend_of_idle {cfg : Config} {s : State} (a b : Byte) (hs : s.scan = .idle) (ht : s.txIndex = .idle) :
    execIn cfg (.beginSend a b) s = .next (startFrame a b (makeCall a b s)) := by
  refine execIn_eq_next_iff.mpr ⟨hs, ?_⟩
  have ht' : (makeCall a b s).txIndex = .idle := ht
  simp only [sendNext, ht']

/-- The address byte is out: the payload is loaded (R165). -/
theorem execIn_txEvent_of_addrSent {cfg : Config} {s : State} (ht : s.txIndex = .addrSent) (hp : s.phyPending ≠ 0) :
    execIn cfg .txEvent s = .next { emitLoadTx s.txPayload (reportSent s) with txIndex := .done } :=
  execIn_eq_next_iff.mpr ⟨hp, by simp only [txNext, reportSent_txIndex, reportSent_txPayload, ht]⟩

/-- The payload byte is out: the frame is closed (R165). -/
theorem execIn_txEvent_of_done {cfg : Config} {s : State} (ht : s.txIndex = .done) (hp : s.phyPending ≠ 0) :
    execIn cfg .txEvent s = .next { emitStop (reportSent s) with txIndex := .idle } :=
  execIn_eq_next_iff.mpr ⟨hp, by simp only [txNext, reportSent_txIndex, ht]⟩

/-- Two events carry a started frame to its end: the PHY gets the payload it is handed back, so one byte fewer is pending. -/
theorem runIn_txEvent_txEvent_of_addrSent {cfg : Config} {s : State} (ht : s.txIndex = .addrSent)
    (hp : s.phyPending ≠ 0) :
    runIn cfg [.txEvent, .txEvent] s = .next { s with
      txIndex := .idle, phyPending := s.phyPending - 1, out := s.out ++ [.loadTx s.txPayload, .stop] } := by
  rw [runIn_cons_of_next _ (execIn_txEvent_of_addrSent ht hp),
    runIn_cons_of_next _ (execIn_txEvent_of_done rfl (by simp)), runIn_nil]
  simp [emitStop, emitLoadTx, emit, reportSent]

/-- `FRAME_OK a, b` with nothing in flight: the whole next state (R112). -/
theorem runIn_frameOk {cfg : Config} {s : State} (a b : Byte) (hs : s.scan = .idle) (ht : s.txIndex = .idle) :
    runIn cfg (frameOk a b) s = .next { s with
      hostTodo := todoAfter a b s.hostTodo, txAddr := a, txPayload := b,
      out := s.out ++ [.start a, .loadTx b, .stop] } := by
  rw [frameOk, runIn_cons_of_next _ (execIn_beginSend_of_idle a b hs ht),
    runIn_txEvent_txEvent_of_addrSent (startFrame_txIndex ..) (by simp)]
  simp [startFrame, emitStart, emit, loadFrame, makeCall, ht]

/-- Settles O23: the whole next state of `FRAME_OK`, where with no send owed the to-do list stays empty. -/
theorem undisturbedFrame : Obligations.UndisturbedFrame := by
  intro cfg a b s hs ht
  refine ⟨rfl, _, runIn_frameOk a b hs ht, ht, rfl, fun htodo => ?_⟩
  simp [htodo]

end Sys2Proof.Machine

/-! The keypad scanner family: what leaves the scanner alone, the row drive (R130), the settle delay (R124) and the scan
over contacts that do not change (R126). -/

namespace Sys2Proof.Machine

/-! What the operations outside the scanner leave of it: the scanner's state and the row drive. -/

@[simp] theorem overwriteFrame_scanner (p : OverwritePolicy) (a b : Byte) (s : State) :
    (overwriteFrame p a b s).scan = s.scan ∧ (overwriteFrame p a b s).rowN = s.rowN := by
  cases p <;> simp [overwriteFrame]

@[simp] theorem sendNext_scanner (cfg : Config) (a b : Byte) (s : State) :
    (sendNext cfg a b s).scan = s.scan ∧ (sendNext cfg a b s).rowN = s.rowN := by
  unfold sendNext
  cases s.txIndex <;> simp

@[simp] theorem txNext_scanner (s : State) : (txNext s).scan = s.scan ∧ (txNext s).rowN = s.rowN := by
  unfold txNext
  cases s.txIndex <;> simp

@[simp] theorem applyDigit_scanner (p : BitVec 3) (s : State) :
    (applyDigit p s).scan = s.scan ∧ (applyDigit p s).rowN = s.rowN := by
  unfold applyDigit
  cases s.unlocked <;> simp

@[simp] theorem applyReserved_scanner (s : State) :
    (applyReserved s).scan = s.scan ∧ (applyReserved s).rowN = s.rowN := by simp [applyReserved]

@[simp] theorem dispatchNext_scanner (s : State) :
    (dispatchNext s).scan = s.scan ∧ (dispatchNext s).rowN = s.rowN := by
  unfold dispatchNext
  cases decodeCommand s.rxByte <;> simp [applyCommand]

@[simp] theorem unlockedKey_scanner (cfg : Config) (k : Byte) (s : State) :
    (unlockedKey cfg k s).scan = s.scan ∧ (unlockedKey cfg k s).rowN = s.rowN := by
  unfold unlockedKey
  cases cfg.relockPolicy with
  | none => exact ⟨rfl, rfl⟩
  | key c => by_cases h : k = c <;> simp [h, relock, forwardKey]

@[simp] theorem acceptKey_scanner (cfg : Config) (s : State) :
    (acceptKey cfg s).scan = s.scan ∧ (acceptKey cfg s).rowN = s.rowN := by
  by_cases h : s.codeIndex = 3 <;> simp [acceptKey, h]

@[simp] theorem rejectKey_scanner (s : State) : (rejectKey s).scan = s.scan ∧ (rejectKey s).rowN = s.rowN := by
  simp [rejectKey]

@[simp] theorem keyNext_scanner (cfg : Config) (k : Byte) (s : State) :
    (keyNext cfg k s).scan = s.scan ∧ (keyNext cfg k s).rowN = s.rowN := by
  unfold keyNext
  split_ifs <;> simp

/-- Only `SCAN_START` and `SCAN_STEP` touch the scanner's state or the row drive. -/
theorem NextOf.scanner_eq {cfg : Config} {i : Instr} {s t : State} (h : NextOf cfg i s t)
    (hstart : i ≠ .scanStart) (hstep : ∀ col, i ≠ .scanStep col) : t.scan = s.scan ∧ t.rowN = s.rowN := by
  cases i with
  | scanStart => exact absurd rfl hstart
  | scanStep col => exact absurd rfl (hstep col)
  | beginSend a b => obtain ⟨-, rfl⟩ := h; simp
  | txEvent => obtain ⟨-, rfl⟩ := h; simp
  | rxEvent b => obtain rfl := h; simp
  | rxTake => obtain ⟨-, -, rfl⟩ := h; simp
  | tick => obtain rfl := h; exact ⟨rfl, rfl⟩
  | actReset => obtain ⟨-, rfl⟩ := h; simp
  | dispatch => obtain ⟨-, -, rfl⟩ := h; simp
  | key k => obtain ⟨-, rfl⟩ := h; simp
  | rgbRefresh => obtain ⟨-, rfl⟩ := h; simp
  | cmdU => obtain ⟨-, rfl⟩ := h; simp
  | cmdDigit p => obtain ⟨-, rfl⟩ := h; simp
  | cmdReserved b => obtain ⟨-, rfl⟩ := h; simp
  | frame a p =>
    obtain rfl := h
    cases ownsAddr cfg a <;> simp

/-! The row drive (R130). -/

/-- The row drive that belongs to a scanner state. -/
def rowsOf : ScanState → Lines
  | .idle => rowsHigh
  | .probe r => oneCold r
  | .settle r _ _ => oneCold r
  | .wait r _ _ => oneCold r

theorem rowsFollowScan_iff (s : State) : rowsFollowScan s ↔ s.rowN = rowsOf s.scan := by
  unfold rowsFollowScan
  cases s.scan <;> exact Iff.rfl

theorem rowsFollowScan_probeRow (r : Fin 4) (s : State) : rowsFollowScan (probeRow r s) := by
  simp [rowsFollowScan_iff, rowsOf]

theorem rowsFollowScan_finishNoKey (s : State) : rowsFollowScan (finishNoKey s) := by
  simp [rowsFollowScan_iff, rowsOf]

theorem rowsFollowScan_finishKey (k : Byte) (s : State) : rowsFollowScan (finishKey k s) := by
  simp [rowsFollowScan_iff, rowsOf]

/-- A change of phase within one row keeps the drive of that row. -/
theorem rowsFollowScan_withScan {s : State} {x : ScanState} (h : rowsFollowScan s) (hx : rowsOf x = rowsOf s.scan) :
    rowsFollowScan { s with scan := x } :=
  (rowsFollowScan_iff _).mpr (((rowsFollowScan_iff s).mp h).trans hx.symm)

/-- A scanner step stays in its row, or drives the next one, or ends the scan with all rows high. -/
theorem rowsFollowScan_scanNext (cfg : Config) (col : Lines) {s : State} (h : rowsFollowScan s) :
    rowsFollowScan (scanNext cfg col s) := by
  unfold scanNext
  cases hs : s.scan with
  | idle => exact h
  | probe r =>
    cases hc : lowestZero col with
    | none =>
      simp only [probeNext, hc]
      split_ifs
      · exact rowsFollowScan_finishNoKey s
      · exact rowsFollowScan_probeRow (r + 1) s
    | some c =>
      simp only [probeNext, hc]
      split_ifs <;> exact rowsFollowScan_withScan h (by rw [hs]; rfl)
  | settle r c n =>
    simp only [settleNext]
    split_ifs <;> exact rowsFollowScan_withScan h (by rw [hs]; rfl)
  | wait r c held =>
    have hhold : rowsFollowScan (holdNext cfg r c held s) := by
      unfold holdNext
      split
      · exact h
      · split_ifs
        · exact rowsFollowScan_finishKey _ s
        · exact rowsFollowScan_withScan h (by rw [hs]; rfl)
    simp only [waitNext]
    split_ifs
    · exact hhold
    · exact rowsFollowScan_finishKey _ s

/-- Every operation keeps the row drive at what the scanner's state says, under any parameters. -/
theorem rowsFollowScan_of_nextOf {cfg : Config} {i : Instr} {s t : State} (h : rowsFollowScan s)
    (hn : NextOf cfg i s t) : rowsFollowScan t := by
  by_cases hstart : i = .scanStart
  · subst hstart
    obtain ⟨-, rfl⟩ := hn
    exact rowsFollowScan_probeRow 0 s
  by_cases hstep : ∃ col, i = .scanStep col
  · obtain ⟨col, rfl⟩ := hstep
    obtain ⟨-, rfl⟩ := hn
    exact rowsFollowScan_scanNext cfg col h
  · obtain ⟨hscan, hrows⟩ := hn.scanner_eq hstart (not_exists.mp hstep)
    rw [rowsFollowScan_iff] at h ⊢
    rw [hscan, hrows, h]

/-- A sample in which no column reads low is all ones. -/
theorem eq_rowsHigh_of_columnLow {col : Lines} (h : ∀ c, columnLow col c = false) : col = rowsHigh := by
  revert col; decide

/-- With all rows high every column reads 1, whatever the contacts (R63). -/
theorem sampleCols_rowsHigh (closed : Fin 4 → Fin 4 → Bool) : sampleCols rowsHigh closed = rowsHigh :=
  eq_rowsHigh_of_columnLow fun c => by simp [columnLow_sampleCols]

/-- Settles O18: an operation of the scanner leaves the row drive that its new state says, and every other operation
leaves both alone. -/
theorem rowDriveFollowsTheScanner : Obligations.RowDriveFollowsTheScanner := by
  refine ⟨rfl, fun s t h hstep => ?_, sampleCols_rowsHigh⟩
  obtain ⟨-, rfl⟩ | ⟨w, rest, i, -, -, hn⟩ := step_eq_next_iff.mp hstep
  · exact h
  · have hrest : rowsFollowScan (s.withStimulus rest) := h
    exact rowsFollowScan_of_nextOf hrest hn

/-! The settle delay (R124). -/

/-- The scanner's state at contact `(r, c)` with `n` settle steps to go. -/
def settling (r c : Fin 4) (n : Nat) : ScanState := if n = 0 then .wait r c 0 else .settle r c n

@[simp] theorem settling_zero (r c : Fin 4) : settling r c 0 = .wait r c 0 := rfl

@[simp] theorem settling_succ (r c : Fin 4) (n : Nat) : settling r c (n + 1) = .settle r c (n + 1) := rfl

/-- A probe that finds a contact has the whole delay to go, whatever the delay. -/
theorem execIn_scanStep_of_contact (cfg : Config) {s : State} {r c : Fin 4} {col : Lines} (hs : s.scan = .probe r)
    (hc : lowestZero col = some c) :
    execIn cfg (.scanStep col) s = .next { s with scan := settling r c cfg.debounceDelay } := by
  refine execIn_eq_next_iff.mpr ⟨by simp [hs], ?_⟩
  cases hd : cfg.debounceDelay <;> simp [scanNext, hs, probeNext, hc, hd]

/-- Inside the settle delay a step has one less to go and ignores its sample. -/
theorem execIn_scanStep_of_settling (cfg : Config) (col : Lines) (s : State) (r c : Fin 4) (n : Nat) :
    execIn cfg (.scanStep col) { s with scan := settling r c (n + 1) } = .next { s with scan := settling r c n } := by
  refine execIn_eq_next_iff.mpr ⟨by simp, ?_⟩
  cases n <;> simp [scanNext, settleNext]

/-- Any samples, no more than there are settle steps to go, only count them down. -/
theorem runIn_scanStep_of_settling (cfg : Config) (s : State) (r c : Fin 4) (cols : List Lines) (n : Nat) :
    runIn cfg (cols.map .scanStep) { s with scan := settling r c (n + cols.length) } =
      .next { s with scan := settling r c n } := by
  induction cols with
  | nil => rfl
  | cons col cols ih =>
    rw [List.length_cons, ← Nat.add_assoc, List.map_cons,
      runIn_cons_of_next _ (execIn_scanStep_of_settling cfg col s r c _), ih]

/-- Settles O13: the probe leaves the whole delay to go, and each sample after it counts one step of it. -/
theorem settleLastsTheDebounceDelay : Obligations.SettleLastsTheDebounceDelay := by
  intro cfg s r c col cols hs hc hlen
  obtain ⟨n, hn⟩ : ∃ n, cfg.debounceDelay = n + cols.length := ⟨_, (Nat.sub_add_cancel hlen).symm⟩
  rw [runIn_cons_of_next _ (execIn_scanStep_of_contact cfg hs hc), hn, runIn_scanStep_of_settling]
  cases n <;> simp

/-! Scans over contacts that do not change (R126). -/

theorem scanFixed_succ_of_next {cfg : Config} {closed : Fin 4 → Fin 4 → Bool} {s t : State} (n : Nat)
    (h : execIn cfg (.scanStep (sampleCols s.rowN closed)) s = .next t) :
    scanFixed cfg closed (n + 1) s = scanFixed cfg closed n t := by simp [scanFixed, h]

/-- A scan over fixed contacts is a run of scanner steps with some samples. -/
theorem scanFixed_eq_runIn (cfg : Config) (closed : Fin 4 → Fin 4 → Bool) (n : Nat) (s : State) :
    ∃ cols : List Lines, cols.length = n ∧ scanFixed cfg closed n s = runIn cfg (cols.map .scanStep) s := by
  induction n generalizing s with
  | zero => exact ⟨[], rfl, rfl⟩
  | succ n ih =>
    cases hi : execIn cfg (.scanStep (sampleCols s.rowN closed)) s with
    | next t =>
      obtain ⟨cols, hlen, hrun⟩ := ih t
      refine ⟨sampleCols s.rowN closed :: cols, by simp [hlen], ?_⟩
      rw [scanFixed_succ_of_next n hi, hrun, List.map_cons, runIn_cons_of_next _ hi]
    | fault r => cases r
    | refused r =>
      exact ⟨List.replicate (n + 1) (sampleCols s.rowN closed), List.length_replicate,
        by simp [scanFixed, List.replicate_succ, runIn, hi]⟩

/-- A row without a closed contact is passed over: no column reads low while it is driven. -/
theorem execIn_scanStep_sampleCols_of_open (cfg : Config) {closed : Fin 4 → Fin 4 → Bool} {r : Fin 4} (s : State)
    (hopen : ∀ c, closed r c = false) :
    execIn cfg (.scanStep (sampleCols (probeRow r s).rowN closed)) (probeRow r s) =
      .next (if r = 3 then finishNoKey s else probeRow (r + 1) s) := by
  have hsample : sampleCols (oneCold r) closed = rowsHigh :=
    eq_rowsHigh_of_columnLow fun c => (columnLow_sampleCols_oneCold closed r c).trans (hopen c)
  rw [probeRow_rowN, hsample, execIn_scanStep_rowsHigh_probeRow]

/-- While the rows before row `n` have no closed contact, the scan comes to row `n` in `n` steps. -/
theorem scanFixed_probeRow_of_open (cfg : Config) {closed : Fin 4 → Fin 4 → Bool} (s : State) (m n : Nat) (hn : n < 4)
    (hopen : ∀ r c : Fin 4, r.val < n → closed r c = false) :
    scanFixed cfg closed (n + m) (probeRow 0 s) = scanFixed cfg closed m (probeRow ⟨n, hn⟩ s) := by
  induction n generalizing m with
  | zero => rw [Nat.zero_add]; rfl
  | succ n ih =>
    have hrow : (⟨n, by omega⟩ : Fin 4) ≠ 3 := Fin.ne_of_val_ne (by simp; omega)
    have hnext : (⟨n, by omega⟩ : Fin 4) + 1 = ⟨n + 1, hn⟩ := Fin.ext (by simp [Fin.val_add]; omega)
    have hpass := execIn_scanStep_sampleCols_of_open cfg s fun c => hopen ⟨n, by omega⟩ c n.lt_succ_self
    rw [if_neg hrow, hnext] at hpass
    rw [Nat.add_right_comm, Nat.add_assoc, ih (m + 1) (by omega) fun r c hr => hopen r c (by omega),
      scanFixed_succ_of_next m hpass]

/-- With no contact closed the fourth step ends the scan with no key. -/
theorem scanFixed_four_of_open (cfg : Config) {closed : Fin 4 → Fin 4 → Bool} (s : State)
    (hopen : ∀ r c, closed r c = false) :
    scanFixed cfg closed 4 (probeRow 0 s) = .next (finishNoKey s) := by
  have hend := execIn_scanStep_sampleCols_of_open cfg s (hopen 3)
  calc scanFixed cfg closed 4 (probeRow 0 s)
      = scanFixed cfg closed 1 (probeRow 3 s) :=
        scanFixed_probeRow_of_open cfg s 1 3 (by decide) fun r c _ => hopen r c
    _ = .next (finishNoKey s) := scanFixed_succ_of_next 0 hend

/-- The closed contact with the least keymap index `4*r + c` (R95, R126). -/
structure FirstContact (closed : Fin 4 → Fin 4 → Bool) (r c : Fin 4) : Prop where
  isClosed : closed r c = true
  least : ∀ r' c' : Fin 4, closed r' c' = true → 4 * r.val + c.val ≤ 4 * r'.val + c'.val

/-- A contact of a lesser index is open. -/
theorem FirstContact.open_of_lt {closed : Fin 4 → Fin 4 → Bool} {r c r' c' : Fin 4} (h : FirstContact closed r c)
    (hlt : 4 * r'.val + c'.val < 4 * r.val + c.val) : closed r' c' = false :=
  Bool.eq_false_iff.mpr fun hclosed => absurd (h.least r' c' hclosed) (by omega)

/-- While its row is driven, its column is the lowest that reads low. -/
theorem FirstContact.lowestZero_sampleCols {closed : Fin 4 → Fin 4 → Bool} {r c : Fin 4} (h : FirstContact closed r c)
    (s : State) : lowestZero (sampleCols (probeRow r s).rowN closed) = some c := by
  simp only [lowestZero_eq_some_iff, probeRow_rowN, columnLow_sampleCols_oneCold]
  exact ⟨h.isClosed, fun d hd => h.open_of_lt (by omega)⟩

/-- The scan passes the rows before the first contact, finds it, and settles. -/
theorem FirstContact.scanFixed_eq {cfg : Config} {closed : Fin 4 → Fin 4 → Bool} {r c : Fin 4}
    (h : FirstContact closed r c) (s : State) :
    scanFixed cfg closed (r.val + 1 + cfg.debounceDelay) (probeRow 0 s) =
      .next { probeRow r s with scan := .wait r c 0 } := by
  have hrows : ∀ r' c' : Fin 4, r'.val < r.val → closed r' c' = false := fun r' c' hr => h.open_of_lt (by omega)
  have hfind := execIn_scanStep_of_contact cfg (probeRow_scan r s) (h.lowestZero_sampleCols s)
  obtain ⟨cols, hlen, hrun⟩ := scanFixed_eq_runIn cfg closed cfg.debounceDelay
    { probeRow r s with scan := settling r c cfg.debounceDelay }
  have hsettle := runIn_scanStep_of_settling cfg (probeRow r s) r c cols 0
  rw [Nat.zero_add, hlen, settling_zero] at hsettle
  calc scanFixed cfg closed (r.val + 1 + cfg.debounceDelay) (probeRow 0 s)
      = scanFixed cfg closed (cfg.debounceDelay + 1) (probeRow r s) := by
        rw [Nat.add_assoc, Nat.add_comm 1, scanFixed_probeRow_of_open cfg s _ r.val r.isLt hrows]
    _ = runIn cfg (cols.map .scanStep) { probeRow r s with scan := settling r c cfg.debounceDelay } :=
        (scanFixed_succ_of_next _ hfind).trans hrun
    _ = .next { probeRow r s with scan := .wait r c 0 } := hsettle

/-- The derived function finds the first contact. -/
theorem FirstContact.scanResult_eq {cfg : Config} {closed : Fin 4 → Fin 4 → Bool} {r c : Fin 4}
    (h : FirstContact closed r c) : scanResult cfg closed = some (keyAt cfg r c) := by
  have hr : (⟨(4 * r.val + c.val) / 4, by omega⟩ : Fin 4) = r := Fin.ext (by simp; omega)
  have hc : (⟨(4 * r.val + c.val) % 4, by omega⟩ : Fin 4) = c := Fin.ext (by simp)
  refine Option.map_eq_some_iff.mpr
    ⟨keyPos r c, List.find?_eq_some_iff_getElem.mpr ⟨?_, (keyPos r c).val, ?_, ?_, ?_⟩, rfl⟩
  · simp only [keyPos, hr, hc, h.isClosed]
  · simp
  · simp
  · intro j hj
    have hlt : j < 4 * r.val + c.val := hj
    simp only [List.getElem_finRange, Fin.val_cast, Bool.not_eq_true']
    exact h.open_of_lt (by simp only; omega)

/-- The derived function finds nothing when no contact is closed. -/
theorem scanResult_eq_none_of_open (cfg : Config) {closed : Fin 4 → Fin 4 → Bool} (hopen : ∀ r c, closed r c = false) :
    scanResult cfg closed = none := by simp [scanResult, hopen]

/-- In WAIT an open sample of the column ends the scan with its key (R125). -/
theorem execIn_scanStep_of_release (cfg : Config) {s : State} {r c : Fin 4} {held : Nat} {col : Lines}
    (hs : s.scan = .wait r c held) (hcol : col.getLsbD c.val = true) :
    execIn cfg (.scanStep col) s = .next (finishKey (keyAt cfg r c) s) := by
  refine execIn_eq_next_iff.mpr ⟨by simp [hs], ?_⟩
  simp [scanNext, hs, waitNext, columnLow, hcol]

/-- Settles O17: with no contact closed four rows are passed over; otherwise the scan waits at the first contact, and
its release gives the key. -/
theorem scanReturnsTheFirstContact : Obligations.ScanReturnsTheFirstContact := by
  intro cfg closed s t hstart
  obtain ⟨hs, rfl⟩ : s.scan = .idle ∧ t = probeRow 0 s := execIn_eq_next_iff.mp hstart
  refine ⟨fun hopen => ⟨scanResult_eq_none_of_open cfg hopen, ?_⟩, fun r c hclosed hleast => ?_⟩
  · exact (scanFixed_four_of_open cfg s hopen).trans (congrArg _ (finishNoKey_of_idle hs))
  · have hfirst : FirstContact closed r c := ⟨hclosed, hleast⟩
    refine ⟨hfirst.scanResult_eq, _, hfirst.scanFixed_eq s, rfl, fun col hcol => ?_⟩
    rw [execIn_scanStep_of_release cfg rfl hcol]
    simp [finishKey, emit, probeRow, hs, rowsHigh]

end Sys2Proof.Machine

/-! The RGB colour mapper family: the arithmetic of `toDutyCycle` (R152, R154). -/

namespace Sys2Proof.Machine

/-- Since 255 is odd, adding its half rounded down already rounds to nearest. -/
theorem toDutyCycle_eq_div (c : Byte) (p : Nat) : toDutyCycle c p = (c.toNat * p + 127) / 255 := by
  rw [toDutyCycle, Nat.mul_assoc]
  omega

theorem toDutyCycle_zero (p : Nat) : toDutyCycle 0#8 p = 0 := by simp [toDutyCycle_eq_div]

theorem toDutyCycle_max (p : Nat) : toDutyCycle 255#8 p = p := by
  have h255 : (255#8).toNat = 255 := rfl
  rw [toDutyCycle_eq_div, h255]
  omega

theorem toDutyCycle_mono {c d : Byte} (p : Nat) (h : c ≤ d) : toDutyCycle c p ≤ toDutyCycle d p := by
  have hnat : c.toNat ≤ d.toNat := h
  rw [toDutyCycle_eq_div, toDutyCycle_eq_div]
  gcongr

/-- 255 is the greatest component, and its duty value is the whole period. -/
theorem toDutyCycle_le_period (c : Byte) (p : Nat) : toDutyCycle c p ≤ p := by
  have hmax : c ≤ 255#8 := Nat.le_of_lt_succ c.isLt
  exact (toDutyCycle_mono p hmax).trans_eq (toDutyCycle_max p)

theorem toDutyCycle_period_zero (c : Byte) : toDutyCycle c 0 = 0 := Nat.le_zero.mp (toDutyCycle_le_period c 0)

/-- The duty value is less than half a unit from `component * period / 255`; all is scaled by 255. -/
theorem abs_toDutyCycle_sub_le (c : Byte) (p : Nat) : |255 * (toDutyCycle c p : Int) - c.toNat * p| ≤ 127 := by
  have hdiv := toDutyCycle_eq_div c p
  have hprod : ((c.toNat * p : Nat) : Int) = c.toNat * p := Nat.cast_mul _ _
  rw [← hprod, abs_le]
  omega

/-- An integer less than half a unit from `x / m` is nearer to it than every other one. -/
theorem abs_sub_lt_of_two_mul_lt {m x q n : Int} (hq : 2 * |m * q - x| < m) (hn : n ≠ q) :
    |m * q - x| < |m * n - x| := by
  have hm : 0 ≤ m := by linarith [abs_nonneg (m * q - x)]
  have hgap : m ≤ |m * n - m * q| := by
    rw [← mul_sub, abs_mul, abs_of_nonneg hm]
    exact le_mul_of_one_le_right hm (Int.one_le_abs (sub_ne_zero.mpr hn))
  have htri : |m * n - m * q| ≤ |m * n - x| + |m * q - x| := by
    rw [abs_sub_comm (m * q) x]
    exact abs_sub_le _ _ _
  omega

/-- Settles O45: the duty value lies within 127/255 of the quotient and so every other integer is farther; the range
follows from the endpoint 255 by monotonicity, and no tie exists because 255 is odd. -/
theorem dutyCycleRounds : Obligations.DutyCycleRounds := by
  refine ⟨fun p => ⟨toDutyCycle_zero p, toDutyCycle_max p⟩, fun _ _ p => toDutyCycle_mono p, toDutyCycle_le_period,
    fun c p htie => ?noTie, fun c p n hn => ?nearest, toDutyCycle_period_zero⟩
  case noTie => omega
  case nearest =>
    have hnear := abs_toDutyCycle_sub_le c p
    exact abs_sub_lt_of_two_mul_lt (by omega) hn

end Sys2Proof.Machine

/-! The bus transfer engine family: what each operation does to the transmit cursor (R176), `TX_EVENT` by the cursor (R165)
and `RX_EVENT` (R168). -/

namespace Sys2Proof.Machine

/-! The transmit cursor: the two transmit operations move it, and every other part of the block leaves it alone. -/

/-- Whatever the cursor and the overwrite policy, a call leaves a frame in its address phase (R162 to R164). -/
@[simp] theorem sendNext_txIndex (cfg : Config) (a b : Byte) (s : State) : (sendNext cfg a b s).txIndex = .addrSent := by
  unfold sendNext
  cases h : s.txIndex with
  | idle => rfl
  | addrSent => cases cfg.overwritePolicy <;> simp [overwriteFrame, h]
  | done => simp

/-- A reported byte leaves a frame in flight exactly when it was the address byte (R165 to R167). -/
theorem txNext_txIndex_eq_idle_iff (s : State) : (txNext s).txIndex = .idle ↔ s.txIndex ≠ .addrSent := by
  unfold txNext
  cases h : s.txIndex <;> simp [h]

@[simp] theorem probeNext_txIndex (cfg : Config) (r : Fin 4) (col : Lines) (s : State) :
    (probeNext cfg r col s).txIndex = s.txIndex := by
  unfold probeNext
  split <;> split_ifs <;> rfl

@[simp] theorem settleNext_txIndex (r c : Fin 4) (n : Nat) (s : State) : (settleNext r c n s).txIndex = s.txIndex := by
  unfold settleNext
  split_ifs <;> rfl

@[simp] theorem holdNext_txIndex (cfg : Config) (r c : Fin 4) (held : Nat) (s : State) :
    (holdNext cfg r c held s).txIndex = s.txIndex := by
  unfold holdNext
  cases cfg.releaseTimeout with
  | none => rfl
  | some n => by_cases h : n ≤ held + 1 <;> simp [h]

@[simp] theorem waitNext_txIndex (cfg : Config) (r c : Fin 4) (held : Nat) (col : Lines) (s : State) :
    (waitNext cfg r c held col s).txIndex = s.txIndex := by
  unfold waitNext
  split_ifs <;> simp

@[simp] theorem scanNext_txIndex (cfg : Config) (col : Lines) (s : State) :
    (scanNext cfg col s).txIndex = s.txIndex := by
  unfold scanNext
  cases s.scan <;> simp

@[simp] theorem applyDigit_txIndex (p : BitVec 3) (s : State) : (applyDigit p s).txIndex = s.txIndex := by
  unfold applyDigit
  split_ifs <;> rfl

@[simp] theorem applyReserved_txIndex (s : State) : (applyReserved s).txIndex = s.txIndex := note_txIndex _ s

@[simp] theorem dispatchNext_txIndex (s : State) : (dispatchNext s).txIndex = s.txIndex := by
  unfold dispatchNext
  cases decodeCommand s.rxByte <;> simp [applyCommand]

@[simp] theorem unlockedKey_txIndex (cfg : Config) (k : Byte) (s : State) :
    (unlockedKey cfg k s).txIndex = s.txIndex := by
  unfold unlockedKey
  cases cfg.relockPolicy with
  | none => rfl
  | key c => by_cases h : k = c <;> simp [h, relock, forwardKey]

@[simp] theorem acceptKey_txIndex (cfg : Config) (s : State) : (acceptKey cfg s).txIndex = s.txIndex := by
  unfold acceptKey
  split_ifs <;> rfl

@[simp] theorem rejectKey_txIndex (s : State) : (rejectKey s).txIndex = s.txIndex := note_txIndex _ _

@[simp] theorem keyNext_txIndex (cfg : Config) (k : Byte) (s : State) : (keyNext cfg k s).txIndex = s.txIndex := by
  unfold keyNext
  split_ifs <;> simp

/-- Only `BEGIN_SEND` and `TX_EVENT` touch the cursor. -/
theorem NextOf.txIndex_eq {cfg : Config} {i : Instr} {s t : State} (h : NextOf cfg i s t)
    (hsend : ∀ a b, i ≠ .beginSend a b) (htx : i ≠ .txEvent) : t.txIndex = s.txIndex := by
  cases i with
  | beginSend a b => exact absurd rfl (hsend a b)
  | txEvent => exact absurd rfl htx
  | scanStart => obtain ⟨-, rfl⟩ := h; simp
  | scanStep col => obtain ⟨-, rfl⟩ := h; simp
  | rxEvent b => obtain rfl := h; simp
  | rxTake => obtain ⟨-, -, rfl⟩ := h; simp
  | tick => obtain rfl := h; rfl
  | actReset => obtain ⟨-, rfl⟩ := h; simp
  | dispatch => obtain ⟨-, -, rfl⟩ := h; simp
  | key k => obtain ⟨-, rfl⟩ := h; simp
  | rgbRefresh => obtain ⟨-, rfl⟩ := h; simp
  | cmdU => obtain ⟨-, rfl⟩ := h; simp
  | cmdDigit p => obtain ⟨-, rfl⟩ := h; simp
  | cmdReserved b => obtain ⟨-, rfl⟩ := h; simp
  | frame a p =>
    obtain rfl := h
    cases ownsAddr cfg a <;> simp

/-- A transfer in flight ends only by the `TX_EVENT` of the DONE state, under any parameters (R176). -/
theorem NextOf.eq_txEvent_of_freed {cfg : Config} {i : Instr} {s t : State} (h : NextOf cfg i s t)
    (hs : s.txIndex ≠ .idle) (ht : t.txIndex = .idle) : i = .txEvent ∧ s.txIndex = .done := by
  by_cases hsend : ∃ a b, i = .beginSend a b
  · obtain ⟨a, b, rfl⟩ := hsend
    obtain ⟨-, rfl⟩ := h
    simp at ht
  by_cases htx : i = .txEvent
  · subst htx
    obtain ⟨-, rfl⟩ := h
    have haddr : s.txIndex ≠ .addrSent := (txNext_txIndex_eq_idle_iff (reportSent s)).mp ht
    cases hcur : s.txIndex with
    | idle => exact absurd hcur hs
    | addrSent => exact absurd hcur haddr
    | done => exact ⟨rfl, rfl⟩
  · exact absurd ((h.txIndex_eq (fun a b hi => hsend ⟨a, b, hi⟩) htx).symm.trans ht) hs

/-- Settles O26: `BEGIN_SEND` ends in the address phase, `TX_EVENT` frees the cursor only outside it, and nothing else
moves the cursor. -/
theorem onlyTxEventFreesTheTransmitter : Obligations.OnlyTxEventFreesTheTransmitter := by
  intro i s t h hs ht
  rw [exec_eq_execIn] at h
  exact (execIn_eq_next_iff.mp h).eq_txEvent_of_freed hs ht

/-! `TX_EVENT` (R165 to R167). -/

/-- With nothing in flight the event is only noted (R166). -/
theorem execIn_txEvent_of_idle {cfg : Config} {s : State} (ht : s.txIndex = .idle) (hp : s.phyPending ≠ 0) :
    execIn cfg .txEvent s = .next (note .spuriousTx (reportSent s)) :=
  execIn_eq_next_iff.mpr ⟨hp, by simp only [txNext, reportSent_txIndex, ht]⟩

/-- With no byte in the PHY there is nothing to report (R171). -/
theorem execIn_txEvent_of_noByte {cfg : Config} {s : State} (hp : s.phyPending = 0) :
    execIn cfg .txEvent s = .refused .noByteInPhy :=
  if_pos hp

/-- The payload handed over takes the place of the reported address byte in the PHY's count. -/
theorem emitLoadTx_reportSent {s : State} (b : Byte) (hp : s.phyPending ≠ 0) :
    emitLoadTx b (reportSent s) = { s with out := s.out ++ [.loadTx b] } := by
  simp [emitLoadTx, emit, reportSent, Nat.sub_add_cancel (Nat.pos_of_ne_zero hp)]

/-- Settles O22: one case per value of the cursor, and the refusal. -/
theorem txEventByCursor : Obligations.TxEventByCursor := by
  refine ⟨rfl, fun s hp => ?enabled, fun s hp => ?refused⟩
  case enabled =>
    rw [exec_eq_execIn]
    cases ht : s.txIndex with
    | idle =>
      rw [execIn_txEvent_of_idle ht hp]
      simp [note, reportSent, ht]
    | addrSent => rw [execIn_txEvent_of_addrSent ht hp, emitLoadTx_reportSent _ hp]
    | done => exact execIn_txEvent_of_done ht hp
  case refused => rw [exec_eq_execIn, execIn_txEvent_of_noByte hp]

/-! `RX_EVENT` (R168). -/

/-- The event word with operation code 5 and first operand 0 is `RX_EVENT` of its second operand, whatever that is
(R96, R101). -/
theorem decode_evwWord_rxEvent (b : Byte) : decode (evwWord 0x5#4 0#8 b) = .ok (.rxEvent b) := by
  simp only [decode, evwWord, decodeEvw, evwOp_append, evwZ_append, evwA_append, evwB_append]
  rfl

/-- A byte that lands, as one update of the state: a byte still waiting is noted as lost. -/
theorem landByte_eq (b : Byte) (s : State) :
    landByte b s = { s with rxByte := b, rxFull := true, gRxLost := s.gRxLost || s.rxFull } := by
  cases h : s.rxFull <;> simp [landByte, noteIf, note, h]

/-- Settles O32: `RX_EVENT` has no guard, and its effect is the landing of the byte. -/
theorem rxEventLandsTheByte : Obligations.RxEventLandsTheByte :=
  ⟨decode_evwWord_rxEvent, fun s b => congrArg _ (landByte_eq b s)⟩

end Sys2Proof.Machine

/-! The display command dispatcher family: what each operation does to `unlocked` (R207, R212). -/

namespace Sys2Proof.Machine

/-! What the operations outside the dispatcher leave of `unlocked`: all of it. -/

@[simp] theorem probeNext_unlocked (cfg : Config) (r : Fin 4) (col : Lines) (s : State) :
    (probeNext cfg r col s).unlocked = s.unlocked := by
  unfold probeNext
  split <;> split_ifs <;> rfl

@[simp] theorem settleNext_unlocked (r c : Fin 4) (n : Nat) (s : State) :
    (settleNext r c n s).unlocked = s.unlocked := by
  unfold settleNext
  split_ifs <;> rfl

@[simp] theorem holdNext_unlocked (cfg : Config) (r c : Fin 4) (held : Nat) (s : State) :
    (holdNext cfg r c held s).unlocked = s.unlocked := by
  unfold holdNext
  split
  · rfl
  · split_ifs <;> rfl

@[simp] theorem waitNext_unlocked (cfg : Config) (r c : Fin 4) (held : Nat) (col : Lines) (s : State) :
    (waitNext cfg r c held col s).unlocked = s.unlocked := by
  unfold waitNext
  split_ifs <;> simp

@[simp] theorem scanNext_unlocked (cfg : Config) (col : Lines) (s : State) :
    (scanNext cfg col s).unlocked = s.unlocked := by
  unfold scanNext
  cases s.scan <;> simp

@[simp] theorem overwriteFrame_unlocked (p : OverwritePolicy) (a b : Byte) (s : State) :
    (overwriteFrame p a b s).unlocked = s.unlocked := by
  cases p <;> simp [overwriteFrame]

@[simp] theorem sendNext_unlocked (cfg : Config) (a b : Byte) (s : State) :
    (sendNext cfg a b s).unlocked = s.unlocked := by
  unfold sendNext
  cases s.txIndex <;> simp

@[simp] theorem txNext_unlocked (s : State) : (txNext s).unlocked = s.unlocked := by
  unfold txNext
  cases s.txIndex <;> simp

@[simp] theorem unlockedKey_unlocked (cfg : Config) (k : Byte) (s : State) :
    (unlockedKey cfg k s).unlocked = s.unlocked := by
  unfold unlockedKey
  split
  · rfl
  · split_ifs <;> rfl

@[simp] theorem acceptKey_unlocked (cfg : Config) (s : State) : (acceptKey cfg s).unlocked = s.unlocked := by
  unfold acceptKey
  split_ifs <;> rfl

@[simp] theorem rejectKey_unlocked (s : State) : (rejectKey s).unlocked = s.unlocked := note_unlocked _ _

/-- The controller's own lock state is another register: even a relock leaves `unlocked` alone (R42, R43, R196). -/
@[simp] theorem keyNext_unlocked (cfg : Config) (k : Byte) (s : State) :
    (keyNext cfg k s).unlocked = s.unlocked := by
  unfold keyNext
  split_ifs <;> simp

/-! The dispatcher (R206 to R209). -/

@[simp] theorem applyDigit_unlocked (p : BitVec 3) (s : State) : (applyDigit p s).unlocked = s.unlocked := by
  unfold applyDigit
  split_ifs <;> rfl

@[simp] theorem applyReserved_unlocked (s : State) : (applyReserved s).unlocked = s.unlocked := note_unlocked _ s

/-- Of the commands only `'U'` writes the flag, and it writes `true` (R207). -/
@[simp] theorem applyCommand_unlocked (c : Command) (s : State) :
    (applyCommand c s).unlocked = (s.unlocked || decide (c = .unlock)) := by
  cases c <;> simp [applyCommand]

@[simp] theorem dispatchNext_unlocked (s : State) :
    (dispatchNext s).unlocked = (s.unlocked || decide (decodeCommand s.rxByte = .unlock)) := by
  simp [dispatchNext]

/-- The operation carries out the command `'U'`: as the byte in the mailbox, or standing alone (R206, R207). -/
@[simp] def observesUnlock (i : Instr) (s : State) : Bool :=
  match i with
  | .dispatch => decide (decodeCommand s.rxByte = .unlock)
  | .cmdU => true
  | _ => false

/-- What every operation does to `unlocked`, under any parameters: it is set by the command `'U'` and kept by all else,
since the alphabet has no command that locks (R212). -/
theorem NextOf.unlocked_eq {cfg : Config} {i : Instr} {s t : State} (h : NextOf cfg i s t) :
    t.unlocked = (s.unlocked || observesUnlock i s) := by
  cases i with
  | dispatch => obtain ⟨-, -, rfl⟩ := h; exact dispatchNext_unlocked s
  | cmdU => obtain ⟨-, rfl⟩ := h; simp
  | cmdDigit p => obtain ⟨-, rfl⟩ := h; simp
  | cmdReserved b => obtain ⟨-, rfl⟩ := h; simp
  | scanStart => obtain ⟨-, rfl⟩ := h; simp
  | scanStep col => obtain ⟨-, rfl⟩ := h; simp
  | beginSend a b => obtain ⟨-, rfl⟩ := h; simp
  | txEvent => obtain ⟨-, rfl⟩ := h; simp
  | rxEvent b => obtain rfl := h; simp
  | rxTake => obtain ⟨-, -, rfl⟩ := h; simp
  | tick => obtain rfl := h; simp [tickNext]
  | actReset => obtain ⟨-, rfl⟩ := h; simp
  | key k => obtain ⟨-, rfl⟩ := h; simp
  | rgbRefresh => obtain ⟨-, rfl⟩ := h; simp
  | frame a p =>
    obtain rfl := h
    cases ownsAddr cfg a <;> simp

/-- No operation clears `unlocked`, under any parameters (R212). -/
theorem NextOf.unlocked_of_unlocked {cfg : Config} {i : Instr} {s t : State} (h : NextOf cfg i s t)
    (hs : s.unlocked = true) : t.unlocked = true := by
  rw [h.unlocked_eq, hs, Bool.true_or]

/-- Settles O50: a step with no event due changes nothing, and taking an event off the trace leaves the node as it is for
the operation, which clears nothing. -/
theorem unlockedIsNeverCleared : Obligations.UnlockedIsNeverCleared := by
  intro s t hstep hs
  obtain ⟨-, rfl⟩ | ⟨w, rest, i, -, -, hn⟩ := step_eq_next_iff.mp hstep
  · exact hs
  · exact hn.unlocked_of_unlocked ((withStimulus_unlocked s rest).trans hs)

end Sys2Proof.Machine

/-! The activity heartbeat monitor family: what each operation does to the idle count and the LED (R221, R223), and the lag of
a dark LED behind the activity (R227). -/

namespace Sys2Proof.Machine

/-! What the operations outside the monitor leave of it: the idle count and the LED. -/

@[simp] theorem probeNext_monitor (cfg : Config) (r : Fin 4) (col : Lines) (s : State) :
    (probeNext cfg r col s).idleTicks = s.idleTicks ∧ (probeNext cfg r col s).led = s.led := by
  unfold probeNext
  split <;> split_ifs <;> exact ⟨rfl, rfl⟩

@[simp] theorem settleNext_monitor (r c : Fin 4) (n : Nat) (s : State) :
    (settleNext r c n s).idleTicks = s.idleTicks ∧ (settleNext r c n s).led = s.led := by
  unfold settleNext
  split_ifs <;> exact ⟨rfl, rfl⟩

@[simp] theorem holdNext_monitor (cfg : Config) (r c : Fin 4) (held : Nat) (s : State) :
    (holdNext cfg r c held s).idleTicks = s.idleTicks ∧ (holdNext cfg r c held s).led = s.led := by
  unfold holdNext
  split
  · exact ⟨rfl, rfl⟩
  · split_ifs <;> exact ⟨rfl, rfl⟩

@[simp] theorem waitNext_monitor (cfg : Config) (r c : Fin 4) (held : Nat) (col : Lines) (s : State) :
    (waitNext cfg r c held col s).idleTicks = s.idleTicks ∧ (waitNext cfg r c held col s).led = s.led := by
  unfold waitNext
  split_ifs <;> simp

@[simp] theorem scanNext_monitor (cfg : Config) (col : Lines) (s : State) :
    (scanNext cfg col s).idleTicks = s.idleTicks ∧ (scanNext cfg col s).led = s.led := by
  unfold scanNext
  cases s.scan <;> simp

@[simp] theorem overwriteFrame_monitor (p : OverwritePolicy) (a b : Byte) (s : State) :
    (overwriteFrame p a b s).idleTicks = s.idleTicks ∧ (overwriteFrame p a b s).led = s.led := by
  cases p <;> simp [overwriteFrame]

@[simp] theorem sendNext_monitor (cfg : Config) (a b : Byte) (s : State) :
    (sendNext cfg a b s).idleTicks = s.idleTicks ∧ (sendNext cfg a b s).led = s.led := by
  unfold sendNext
  cases s.txIndex <;> simp

@[simp] theorem txNext_monitor (s : State) : (txNext s).idleTicks = s.idleTicks ∧ (txNext s).led = s.led := by
  unfold txNext
  cases s.txIndex <;> simp

@[simp] theorem unlockedKey_monitor (cfg : Config) (k : Byte) (s : State) :
    (unlockedKey cfg k s).idleTicks = s.idleTicks ∧ (unlockedKey cfg k s).led = s.led := by
  unfold unlockedKey
  split
  · exact ⟨rfl, rfl⟩
  · split_ifs <;> exact ⟨rfl, rfl⟩

@[simp] theorem acceptKey_monitor (cfg : Config) (s : State) :
    (acceptKey cfg s).idleTicks = s.idleTicks ∧ (acceptKey cfg s).led = s.led := by
  unfold acceptKey
  split_ifs <;> exact ⟨rfl, rfl⟩

@[simp] theorem rejectKey_monitor (s : State) :
    (rejectKey s).idleTicks = s.idleTicks ∧ (rejectKey s).led = s.led := by simp [rejectKey]

@[simp] theorem keyNext_monitor (cfg : Config) (k : Byte) (s : State) :
    (keyNext cfg k s).idleTicks = s.idleTicks ∧ (keyNext cfg k s).led = s.led := by
  unfold keyNext
  split_ifs <;> simp

/-- No command touches the monitor: clearing the count is the dispatcher's own part, whatever the byte (R206). -/
@[simp] theorem applyCommand_monitor (c : Command) (s : State) :
    (applyCommand c s).idleTicks = s.idleTicks ∧ (applyCommand c s).led = s.led := by
  cases c with
  | unlock => exact ⟨rfl, rfl⟩
  | digit p => cases h : s.unlocked <;> simp [applyCommand, applyDigit, h]
  | reserved => simp [applyCommand, applyReserved]

@[simp] theorem dispatchNext_monitor (s : State) :
    (dispatchNext s).idleTicks = 0 ∧ (dispatchNext s).led = s.led := by simp [dispatchNext]

/-- The operation observes activity: `ACT_RESET` itself, or the dispatcher's observation of a byte (R206, R223). -/
@[simp] def observesActivity : Instr → Bool
  | .actReset | .dispatch => true
  | _ => false

/-- What every operation but the tick does to the monitor, under any parameters: an observation of activity clears the count,
and none touches the LED (R223, R227). -/
theorem NextOf.monitor_eq {cfg : Config} {i : Instr} {s t : State} (h : NextOf cfg i s t) (htick : i ≠ .tick) :
    t.idleTicks = (if observesActivity i then 0 else s.idleTicks) ∧ t.led = s.led := by
  cases i with
  | tick => exact absurd rfl htick
  | actReset => obtain ⟨-, rfl⟩ := h; simp
  | dispatch => obtain ⟨-, -, rfl⟩ := h; simp
  | scanStart => obtain ⟨-, rfl⟩ := h; simp
  | scanStep col => obtain ⟨-, rfl⟩ := h; simp
  | beginSend a b => obtain ⟨-, rfl⟩ := h; simp
  | txEvent => obtain ⟨-, rfl⟩ := h; simp
  | rxEvent b => obtain rfl := h; simp
  | rxTake => obtain ⟨-, -, rfl⟩ := h; simp
  | key k => obtain ⟨-, rfl⟩ := h; simp
  | rgbRefresh => obtain ⟨-, rfl⟩ := h; simp
  | cmdU => obtain ⟨-, rfl⟩ := h; simp
  | cmdDigit p => obtain ⟨-, rfl⟩ := h; exact applyCommand_monitor (.digit p) s
  | cmdReserved b => obtain ⟨-, rfl⟩ := h; exact applyCommand_monitor .reserved s
  | frame a p =>
    obtain rfl := h
    cases ownsAddr cfg a <;> simp

/-! Runs without a tick. -/

/-- A run goes on exactly with an operation that is enabled, from the state it answers. -/
theorem runIn_cons_eq_next_iff {cfg : Config} {i : Instr} {is : List Instr} {s t : State} :
    runIn cfg (i :: is) s = .next t ↔ ∃ u, execIn cfg i s = .next u ∧ runIn cfg is u = .next t := by
  rw [runIn]
  cases execIn cfg i s <;> simp

/-- Over a run without a tick the LED stays as it is, and the count is cleared exactly when some operation of the run observes
activity (R223, R227). -/
theorem monitor_eq_of_runIn_of_noTick {cfg : Config} {is : List Instr} {s u : State} (hrun : runIn cfg is s = .next u)
    (htick : Instr.tick ∉ is) :
    u.idleTicks = (if is.any observesActivity then 0 else s.idleTicks) ∧ u.led = s.led := by
  induction is generalizing s with
  | nil =>
    cases hrun
    exact ⟨rfl, rfl⟩
  | cons i is ih =>
    obtain ⟨hi, his⟩ : Instr.tick ≠ i ∧ Instr.tick ∉ is := by simpa using htick
    obtain ⟨t, hstep, hrest⟩ := runIn_cons_eq_next_iff.mp hrun
    obtain ⟨hcount, hled⟩ := (execIn_eq_next_iff.mp hstep).monitor_eq (Ne.symm hi)
    obtain ⟨hcount', hled'⟩ := ih hrest his
    refine ⟨?_, hled'.trans hled⟩
    rw [hcount', hcount, List.any_cons]
    cases observesActivity i <;> cases is.any observesActivity <;> rfl

/-! The tick (R221, R224). -/

/-- A count below the threshold lights the LED, whatever it showed before (R224). -/
theorem ledAfter_of_lt {cfg : Config} {n : Nat} (led : Bool) (h : n < cfg.threshold) : ledAfter cfg n led = true :=
  if_neg (Nat.not_le.mpr h)

/-- The first tick after an observation counts 1: the counter's maximum is no less than the threshold (R222, R227). -/
theorem satInc_zero {cfg : Config} (h : 2 ≤ cfg.threshold) : satInc cfg 0 = 1 :=
  satInc_of_lt cfg (Nat.lt_of_lt_of_le (by omega) (threshold_le_idleMax cfg))

/-- Settles O39: the run from `ACT_RESET` on has no tick, so it ends with the LED as dark as it began and the count 0; the next
tick counts 1, which lies below the threshold. -/
theorem darkLedLagsActivity : Obligations.DarkLedLagsActivity := by
  intro cfg s is u hthr hdark htick hrun
  obtain ⟨hcount, hled⟩ := monitor_eq_of_runIn_of_noTick hrun (List.not_mem_cons_of_ne_of_not_mem (by decide) htick)
  have hzero : u.idleTicks = 0 := hcount
  have hone : (tickNext cfg u).idleTicks = 1 := (congrArg (satInc cfg) hzero).trans (satInc_zero hthr)
  have hbelow : (tickNext cfg u).idleTicks < cfg.threshold := by omega
  exact ⟨hled.trans hdark, tickNext cfg u, rfl, hone, ledAfter_of_lt u.led hbelow⟩

/-- Settles O35: `TICK` has no guard, and its effect is `tickNext`. -/
theorem tickCountsAndDrivesTheLed : Obligations.TickCountsAndDrivesTheLed := by
  refine ⟨rfl, fun s => ?_⟩
  rw [exec_eq_execIn]
  exact execIn_eq_next_iff.mpr rfl

end Sys2Proof.Machine

/-! The reset and hazards family: the loss of a byte-sent event (R286). -/

namespace Sys2Proof.Machine

/-! What an output event hands to the PHY (R171). -/

@[simp] theorem handed_concat (es : List OutEvent) (e : OutEvent) : handed (es ++ [e]) = handed es + handed [e] :=
  List.countP_append ..

@[simp] theorem handed_scanDone (k : Option Byte) : handed [.scanDone k] = 0 := rfl

@[simp] theorem handed_render (p : BitVec 3) : handed [.render p] = 0 := rfl

@[simp] theorem handed_dutyOf (cfg : Config) (k : Rgb) : handed [dutyOf cfg k] = 0 := rfl

/-! What the operations outside the transmitter hand to the PHY: nothing. -/

@[simp] theorem probeNext_handed (cfg : Config) (r : Fin 4) (col : Lines) (s : State) :
    handed (probeNext cfg r col s).out = handed s.out := by
  unfold probeNext
  split <;> split_ifs <;> simp

@[simp] theorem settleNext_out (r c : Fin 4) (n : Nat) (s : State) : (settleNext r c n s).out = s.out := by
  unfold settleNext
  split_ifs <;> rfl

@[simp] theorem holdNext_handed (cfg : Config) (r c : Fin 4) (held : Nat) (s : State) :
    handed (holdNext cfg r c held s).out = handed s.out := by
  unfold holdNext
  cases cfg.releaseTimeout with
  | none => rfl
  | some n => by_cases h : n ≤ held + 1 <;> simp [h]

@[simp] theorem waitNext_handed (cfg : Config) (r c : Fin 4) (held : Nat) (col : Lines) (s : State) :
    handed (waitNext cfg r c held col s).out = handed s.out := by
  unfold waitNext
  split_ifs <;> simp

@[simp] theorem scanNext_handed (cfg : Config) (col : Lines) (s : State) :
    handed (scanNext cfg col s).out = handed s.out := by
  unfold scanNext
  cases s.scan <;> simp

@[simp] theorem applyDigit_handed (p : BitVec 3) (s : State) : handed (applyDigit p s).out = handed s.out := by
  unfold applyDigit
  split_ifs <;> simp

@[simp] theorem applyReserved_out (s : State) : (applyReserved s).out = s.out := note_out _ s

@[simp] theorem dispatchNext_handed (s : State) : handed (dispatchNext s).out = handed s.out := by
  unfold dispatchNext
  cases decodeCommand s.rxByte <;> simp [applyCommand]

@[simp] theorem unlockedKey_out (cfg : Config) (k : Byte) (s : State) : (unlockedKey cfg k s).out = s.out := by
  unfold unlockedKey
  split
  · rfl
  · split_ifs <;> rfl

@[simp] theorem acceptKey_out (cfg : Config) (s : State) : (acceptKey cfg s).out = s.out := by
  unfold acceptKey
  split_ifs <;> rfl

@[simp] theorem rejectKey_out (s : State) : (rejectKey s).out = s.out := note_out _ _

/-- A key is no call: what it makes the host owe is handed over by a `BEGIN_SEND` of its own (R191, R193). -/
@[simp] theorem keyNext_out (cfg : Config) (k : Byte) (s : State) : (keyNext cfg k s).out = s.out := by
  unfold keyNext
  split_ifs <;> simp

/-- Only `BEGIN_SEND` and `TX_EVENT` hand a byte to the PHY (R70, R171). -/
theorem NextOf.handed_eq {cfg : Config} {i : Instr} {s t : State} (h : NextOf cfg i s t)
    (hsend : ∀ a b, i ≠ .beginSend a b) (htx : i ≠ .txEvent) : handed t.out = handed s.out := by
  cases i with
  | beginSend a b => exact absurd rfl (hsend a b)
  | txEvent => exact absurd rfl htx
  | scanStart => obtain ⟨-, rfl⟩ := h; simp
  | scanStep col => obtain ⟨-, rfl⟩ := h; simp
  | rxEvent b => obtain rfl := h; simp
  | rxTake => obtain ⟨-, -, rfl⟩ := h; simp
  | tick => obtain rfl := h; rfl
  | actReset => obtain ⟨-, rfl⟩ := h; simp
  | dispatch => obtain ⟨-, -, rfl⟩ := h; simp
  | key k => obtain ⟨-, rfl⟩ := h; simp
  | rgbRefresh => obtain ⟨-, rfl⟩ := h; simp
  | cmdU => obtain ⟨-, rfl⟩ := h; simp
  | cmdDigit p => obtain ⟨-, rfl⟩ := h; simp
  | cmdReserved b => obtain ⟨-, rfl⟩ := h; simp
  | frame a p =>
    obtain rfl := h
    cases ownsAddr cfg a <;> simp

/-! Runs without a `TX_EVENT` (R286). -/

/-- What every operation of a run keeps holds at its end. -/
theorem runIn_keeps {cfg : Config} {is : List Instr} {P : State → Prop} {s t : State}
    (hkeep : ∀ i ∈ is, ∀ u v, NextOf cfg i u v → P u → P v) (hrun : runIn cfg is s = .next t) (hs : P s) : P t := by
  induction is generalizing s with
  | nil =>
    cases hrun
    exact hs
  | cons i is ih =>
    obtain ⟨u, hstep, hrest⟩ := runIn_cons_eq_next_iff.mp hrun
    have hu : P u := hkeep i List.mem_cons_self s u (execIn_eq_next_iff.mp hstep) hs
    exact ih (fun j hj => hkeep j (List.mem_cons_of_mem i hj)) hrest hu

/-- The frame in flight is in its address phase, and `n` bytes have been handed to the PHY so far. -/
def InAddressPhase (n : Nat) (s : State) : Prop := s.txIndex = .addrSent ∧ handed s.out = n

/-- In the address phase a call under `buffer_only` changes the buffer and emits nothing (R163). -/
theorem sendNext_out_of_bufferOnly {cfg : Config} {s : State} (a b : Byte) (hp : cfg.overwritePolicy = .bufferOnly)
    (hs : s.txIndex = .addrSent) : (sendNext cfg a b s).out = s.out := by
  simp [sendNext, hs, overwriteFrame, hp]

/-- Under `buffer_only` only `TX_EVENT` leaves the address phase or hands over a byte in it (R163, R286). -/
theorem NextOf.inAddressPhase {cfg : Config} {i : Instr} {s t : State} {n : Nat} (h : NextOf cfg i s t)
    (hp : cfg.overwritePolicy = .bufferOnly) (htx : i ≠ .txEvent) (hs : InAddressPhase n s) : InAddressPhase n t := by
  obtain ⟨hcur, hn⟩ := hs
  by_cases hsend : ∃ a b, i = .beginSend a b
  · obtain ⟨a, b, rfl⟩ := hsend
    obtain ⟨-, rfl⟩ := h
    have hout : (sendNext cfg a b (makeCall a b s)).out = s.out :=
      sendNext_out_of_bufferOnly a b hp ((makeCall_txIndex a b s).trans hcur)
    exact ⟨sendNext_txIndex .., (congrArg handed hout).trans hn⟩
  · have hother : ∀ a b, i ≠ .beginSend a b := fun a b hi => hsend ⟨a, b, hi⟩
    exact ⟨(h.txIndex_eq hother htx).trans hcur, (h.handed_eq hother htx).trans hn⟩

/-- Settles O31: two properties that every operation but `TX_EVENT` keeps, so a run without one keeps them too: the cursor is
not free, and under `buffer_only` the address phase with its count of handed bytes. -/
theorem lostByteSentEventWedges : Obligations.LostByteSentEventWedges := by
  intro cfg is s t htx hrun
  have hne : ∀ i ∈ is, i ≠ .txEvent := fun i hi heq => htx (heq ▸ hi)
  refine ⟨fun hs => ?inFlight, fun hp hs => ?addressPhase⟩
  case inFlight =>
    exact runIn_keeps (P := fun u => u.txIndex ≠ .idle)
      (fun i hi u v hn hu hv => hne i hi (hn.eq_txEvent_of_freed hu hv).1) hrun hs
  case addressPhase =>
    exact runIn_keeps (P := InAddressPhase (handed s.out)) (fun i hi u v hn => hn.inAddressPhase hp (hne i hi)) hrun
      ⟨hs, rfl⟩

end Sys2Proof.Machine

/-! The encoding family, continued: the round trip of encoder and decoder (R91, R94, R96, R101, R105) and the rows of
the table. -/

namespace Sys2Proof

/-! What the decoder makes of the encoder's words. -/

/-- An event word from its fields: the zero field is zero, and the rest is read back as it was written (R96). -/
theorem decode_evwWord (op : BitVec 4) (a b : Byte) :
    decode (evwWord op a b) = match op.toNat with
      | 0x1 => operandsIf (a == 0#8 && b == 0#8) .scanStart
      | 0x2 => operandsIf (a == 0#8 && b.extractLsb' 4 4 == 0#4) (.scanStep (b.extractLsb' 0 4))
      | 0x3 => .ok (.beginSend a b)
      | 0x4 => operandsIf (a == 0#8 && b == 0#8) .txEvent
      | 0x5 => operandsIf (a == 0#8) (.rxEvent b)
      | 0x6 => operandsIf (a == 0#8 && b == 0#8) .rxTake
      | 0x7 => operandsIf (a == 0#8 && b == 0#8) .tick
      | 0x8 => operandsIf (a == 0#8 && b == 0#8) .actReset
      | 0x9 => operandsIf (a == 0#8 && b == 0#8) .dispatch
      | 0xA => operandsIf (a == 0#8) (.key b)
      | 0xB => operandsIf (a == 0#8 && b == 0#8) .rgbRefresh
      | _ => .error .reservedOp := by
  simp only [decode, evwWord, decodeEvw, evwOp_append, evwZ_append, evwA_append, evwB_append]
  rfl

/-- A sample is the low half of its operand byte, and the high half is zero (R96). -/
theorem decode_evwWord_scanStep (s : Lines) : decode (evwWord 0x2#4 0#8 (0#4 ++ s)) = .ok (.scanStep s) := by
  rw [decode_evwWord]
  revert s
  decide

/-- A digit byte reads back as its index (R98). -/
theorem decodeCommand_digit (p : BitVec 3) : decodeCommand (0b00110#5 ++ p) = .digit p := by revert p; decide

/-- The well-formed reserved bytes are those that the two rows before leave over (R94). -/
theorem decodeCommand_eq_reserved_iff (b : Byte) : decodeCommand b = .reserved ↔ (Instr.cmdReserved b).WellFormed := by
  by_cases hU : b = 0x55#8 <;> by_cases hD : b.extractLsb' 3 5 = 0b00110#5 <;>
    simp [decodeCommand, Instr.WellFormed, wellFormed, hU, hD]

/-- A frame's bytes are read back in their order (R91). -/
theorem decodeFrame_append (a p : Byte) : decodeFrame (a ++ p) = .frame a p := by
  rw [decodeFrame, BitVec.extractLsb'_append_eq_left, BitVec.extractLsb'_append_eq_right]

/-- Settles O3: by instruction; the decoder sees the fields the encoder wrote, and only the sample, the digit and the
reserved byte need a fact about their bits. -/
theorem decodeOfEncode : Obligations.DecodeOfEncode := by
  intro i hi
  cases i with
  | scanStart => exact decode_evwWord _ _ _
  | scanStep s => exact decode_evwWord_scanStep s
  | beginSend a b => exact decode_evwWord _ a b
  | txEvent => exact decode_evwWord _ _ _
  | rxEvent b => exact decode_evwWord _ _ b
  | rxTake => exact decode_evwWord _ _ _
  | tick => exact decode_evwWord _ _ _
  | actReset => exact decode_evwWord _ _ _
  | dispatch => exact decode_evwWord _ _ _
  | key k => exact decode_evwWord _ _ k
  | rgbRefresh => exact decode_evwWord _ _ _
  | cmdU => rfl
  | cmdDigit p => simp only [encode, decode, decodeCmd, decodeCommand_digit]
  | cmdReserved b => simp only [encode, decode, decodeCmd, (decodeCommand_eq_reserved_iff b).mpr hi]
  | frame a p => exact congrArg _ (decodeFrame_append a p)

/-! What the encoder makes of the decoder's instructions. -/

/-- An event word that has no operands decodes only with both operand bytes zero (R96). -/
theorem eq_zero_of_operandsIf_eq_ok {a b : Byte} {i j : Instr} (h : operandsIf (a == 0#8 && b == 0#8) j = .ok i) :
    a = 0#8 ∧ b = 0#8 ∧ i = j := by
  simpa [and_assoc] using operandsIf_eq_ok_iff.mp h

/-- A byte whose high half is zero is its low half with four zero bits before it. -/
theorem zero_append_low_of_high_eq_zero {b : Byte} (h : b.extractLsb' 4 4 = 0#4) : 0#4 ++ b.extractLsb' 0 4 = b := by
  revert b; decide

/-- The same, the high half being cut out by a mask (R96). -/
theorem zero_append_low_of_and_eq_zero {b : Byte} (h : b &&& 0xF0#8 = 0#8) : 0#4 ++ b.extractLsb' 0 4 = b := by
  revert b; decide

/-- A byte is its bits 7:3 and its bits 2:0. -/
theorem high_append_low (b : Byte) : b.extractLsb' 3 5 ++ b.extractLsb' 0 3 = b := by revert b; decide

/-- An operation code is the literal of its number. -/
theorem eq_ofNat_of_toNat_eq {op : BitVec 4} {n : Nat} (h : op.toNat = n) : op = BitVec.ofNat 4 n := by
  rw [← h, BitVec.ofNat_toNat, BitVec.setWidth_eq]

/-- The event word that decodes is the one the encoder writes: each operand bit is kept or must be zero. -/
theorem encode_of_decode_evwWord {op : BitVec 4} {a b : Byte} {i : Instr} (h : decode (evwWord op a b) = .ok i) :
    i.WellFormed ∧ encode i = evwWord op a b := by
  rw [decode_evwWord] at h
  split at h
  case h_1 hop | h_4 hop | h_6 hop | h_7 hop | h_8 hop | h_9 hop | h_11 hop =>
    obtain ⟨rfl, rfl, rfl⟩ := eq_zero_of_operandsIf_eq_ok h
    obtain rfl := eq_ofNat_of_toNat_eq hop
    exact ⟨rfl, rfl⟩
  case h_5 hop | h_10 hop =>
    obtain ⟨ha, rfl⟩ := operandsIf_eq_ok_iff.mp h
    obtain rfl := beq_iff_eq.mp ha
    obtain rfl := eq_ofNat_of_toNat_eq hop
    exact ⟨rfl, rfl⟩
  case h_2 hop =>
    obtain ⟨hab, rfl⟩ := operandsIf_eq_ok_iff.mp h
    obtain ⟨rfl, hb⟩ : a = 0#8 ∧ b.extractLsb' 4 4 = 0#4 := by simpa using hab
    obtain rfl := eq_ofNat_of_toNat_eq hop
    exact ⟨rfl, congrArg (evwWord 0x2#4 0#8) (zero_append_low_of_high_eq_zero hb)⟩
  case h_3 hop =>
    cases h
    obtain rfl := eq_ofNat_of_toNat_eq hop
    exact ⟨rfl, rfl⟩
  case h_12 => cases h

/-- A command byte is the one the encoder writes, in each of the three rows of R94. -/
theorem encode_decodeCmd (b : Byte) : (decodeCmd b).WellFormed ∧ encode (decodeCmd b) = .cmd b := by
  by_cases hU : b = 0x55#8
  · subst hU
    exact ⟨rfl, rfl⟩
  by_cases hD : b.extractLsb' 3 5 = 0b00110#5
  · have hdec : decodeCmd b = .cmdDigit (b.extractLsb' 0 3) := by
      simp only [decodeCmd, decodeCommand_of_digitRow hD]
    rw [hdec]
    exact ⟨rfl, congrArg Word.cmd (hD ▸ high_append_low b)⟩
  · have hres : decodeCommand b = .reserved := by simp [decodeCommand, hU, hD]
    have hdec : decodeCmd b = .cmdReserved b := by simp only [decodeCmd, hres]
    rw [hdec]
    exact ⟨(decodeCommand_eq_reserved_iff b).mp hres, rfl⟩

/-- A frame is its two bytes (R91). -/
theorem encode_decodeFrame (w : BitVec 16) : encode (decodeFrame w) = .frame w := by
  have happend : w.extractLsb' 8 8 ++ w.extractLsb' 0 8 = w.extractLsb' 0 16 :=
    BitVec.extractLsb'_append_extractLsb'_eq_extractLsb' rfl
  exact congrArg Word.frame (happend.trans BitVec.extractLsb'_eq_self)

/-- Settles O4: an event word that decodes has a zero field of zero, so it is the word of its operation code and
operands. -/
theorem encodeOfDecode : Obligations.EncodeOfDecode := by
  intro w i h
  cases w with
  | evw w =>
    by_cases hz : evwZ w = 0#4
    · rw [evw_eq_evwWord hz] at h ⊢
      exact encode_of_decode_evwWord h
    · rw [decode, decodeEvw_of_zNonzero hz] at h
      cases h
  | cmd b =>
    cases h
    exact encode_decodeCmd b
  | frame w =>
    cases h
    exact ⟨rfl, encode_decodeFrame w⟩

/-! The rows of the table (R96, R105). -/

/-- The two parts of a concatenation are what it is. -/
theorem append_inj {m n : Nat} {x x' : BitVec m} {y y' : BitVec n} (h : x ++ y = x' ++ y') : x = x' ∧ y = y' := by
  have hleft := congrArg (BitVec.extractLsb' n m) h
  have hright := congrArg (BitVec.extractLsb' 0 n) h
  rw [BitVec.extractLsb'_append_eq_left, BitVec.extractLsb'_append_eq_left] at hleft
  rw [BitVec.extractLsb'_append_eq_right, BitVec.extractLsb'_append_eq_right] at hright
  exact ⟨hleft, hright⟩

/-- A mask that covers the operation code and the zero field fixes both, and each operand under its own part of it. -/
theorem fields_of_and_eq {w : BitVec 24} {op : BitVec 4} {ma mb : Byte}
    (h : w &&& (BitVec.allOnes 4 ++ BitVec.allOnes 4 ++ ma ++ mb) = op ++ 0#4 ++ 0#8 ++ 0#8) :
    evwOp w = op ∧ evwZ w = 0#4 ∧ evwA w &&& ma = 0#8 ∧ evwB w &&& mb = 0#8 := by
  rw [evw_eq_append w, BitVec.and_append, BitVec.and_append, BitVec.and_append, BitVec.and_allOnes,
    BitVec.and_allOnes] at h
  obtain ⟨h, hb⟩ := append_inj h
  obtain ⟨h, ha⟩ := append_inj h
  obtain ⟨hop, hz⟩ := append_inj h
  exact ⟨hop, hz, ha, hb⟩

/-- The words of an event-word row: the operation code and the zero field are fixed, and each operand under its own part
of the mask. -/
theorem evw_eq_of_rowHolds {r : Row} {w : BitVec 24} (op : BitVec 4) (ma mb : Byte) (h : rowHolds r (.evw w) = true)
    (hmask : r.mask = (BitVec.allOnes 4 ++ BitVec.allOnes 4 ++ ma ++ mb).toNat)
    (hvalue : r.value = (op ++ 0#4 ++ 0#8 ++ 0#8).toNat) :
    Word.evw w = evwWord op (evwA w) (evwB w) ∧ evwA w &&& ma = 0#8 ∧ evwB w &&& mb = 0#8 := by
  have hnat : w.toNat &&& r.mask = r.value := beq_iff_eq.mp (Bool.and_eq_true_iff.mp h).2
  obtain ⟨hop, hz, ha, hb⟩ := fields_of_and_eq (w := w) (op := op) (ma := ma) (mb := mb)
    (BitVec.eq_of_toNat_eq (by rw [BitVec.toNat_and, ← hmask, ← hvalue, hnat]))
  exact ⟨hop ▸ evw_eq_evwWord hz, ha, hb⟩

/-- A row whose mask covers every bit holds of one word. -/
theorem evw_eq_of_bareRow {r : Row} {w : BitVec 24} (op : BitVec 4) (h : rowHolds r (.evw w) = true)
    (hmask : r.mask = 0xFFFFFF) (hvalue : r.value = (op ++ 0#4 ++ 0#8 ++ 0#8).toNat) :
    Word.evw w = evwWord op 0#8 0#8 := by
  obtain ⟨hw, ha, hb⟩ := evw_eq_of_rowHolds op (BitVec.allOnes 8) (BitVec.allOnes 8) h hmask hvalue
  rw [BitVec.and_allOnes] at ha hb
  rw [hw, ha, hb]

/-- A row whose mask leaves out bits 7:0 holds of the words with its operation code and any second operand. -/
theorem evw_eq_of_byteRow {r : Row} {w : BitVec 24} (op : BitVec 4) (h : rowHolds r (.evw w) = true)
    (hmask : r.mask = 0xFFFF00) (hvalue : r.value = (op ++ 0#4 ++ 0#8 ++ 0#8).toNat) :
    Word.evw w = evwWord op 0#8 (evwB w) := by
  obtain ⟨hw, ha, -⟩ := evw_eq_of_rowHolds op (BitVec.allOnes 8) 0#8 h hmask hvalue
  rw [BitVec.and_allOnes] at ha
  rw [hw, ha]

/-- Every word of a row of the table is the word of an instruction of that row. -/
theorem exists_encode_of_rowHolds {r : Row} {w : BitVec 24} (hr : r ∈ evwRows) (h : rowHolds r (.evw w) = true) :
    ∃ i : Instr, i.WellFormed ∧ encode i = .evw w ∧ mnemonicOf i = r.mnemonic := by
  simp only [evwRows, List.mem_cons, List.not_mem_nil, or_false] at hr
  obtain rfl | rfl | rfl | rfl | rfl | rfl | rfl | rfl | rfl | rfl | rfl := hr
  · exact ⟨.scanStart, rfl, (evw_eq_of_bareRow 0x1#4 h rfl rfl).symm, rfl⟩
  · obtain ⟨hw, ha, hb⟩ := evw_eq_of_rowHolds 0x2#4 (BitVec.allOnes 8) 0xF0#8 h rfl rfl
    rw [BitVec.and_allOnes] at ha
    refine ⟨.scanStep ((evwB w).extractLsb' 0 4), rfl, ?_, rfl⟩
    rw [hw, ha, encode, zero_append_low_of_and_eq_zero hb]
  · obtain ⟨hw, -, -⟩ := evw_eq_of_rowHolds 0x3#4 0#8 0#8 h rfl rfl
    exact ⟨.beginSend (evwA w) (evwB w), rfl, hw.symm, rfl⟩
  · exact ⟨.txEvent, rfl, (evw_eq_of_bareRow 0x4#4 h rfl rfl).symm, rfl⟩
  · exact ⟨.rxEvent (evwB w), rfl, (evw_eq_of_byteRow 0x5#4 h rfl rfl).symm, rfl⟩
  · exact ⟨.rxTake, rfl, (evw_eq_of_bareRow 0x6#4 h rfl rfl).symm, rfl⟩
  · exact ⟨.tick, rfl, (evw_eq_of_bareRow 0x7#4 h rfl rfl).symm, rfl⟩
  · exact ⟨.actReset, rfl, (evw_eq_of_bareRow 0x8#4 h rfl rfl).symm, rfl⟩
  · exact ⟨.dispatch, rfl, (evw_eq_of_bareRow 0x9#4 h rfl rfl).symm, rfl⟩
  · exact ⟨.key (evwB w), rfl, (evw_eq_of_byteRow 0xA#4 h rfl rfl).symm, rfl⟩
  · exact ⟨.rgbRefresh, rfl, (evw_eq_of_bareRow 0xB#4 h rfl rfl).symm, rfl⟩

/-- The encoder's word lies in the row of its instruction (R94, R96), for every instruction. -/
theorem encodesToRow (i : Instr) : Laws.EncodesToRow.Statement i := by
  cases i with
  | scanStart => exact Laws.EncodesToRow.scanStart
  | scanStep s => exact Laws.EncodesToRow.scanStep s
  | beginSend a b => exact Laws.EncodesToRow.beginSend a b
  | txEvent => exact Laws.EncodesToRow.txEvent
  | rxEvent b => exact Laws.EncodesToRow.rxEvent b
  | rxTake => exact Laws.EncodesToRow.rxTake
  | tick => exact Laws.EncodesToRow.tick
  | actReset => exact Laws.EncodesToRow.actReset
  | dispatch => exact Laws.EncodesToRow.dispatch
  | key k => exact Laws.EncodesToRow.key k
  | rgbRefresh => exact Laws.EncodesToRow.rgbRefresh
  | cmdU => exact Laws.EncodesToRow.cmdU
  | cmdDigit p => exact Laws.EncodesToRow.cmdDigit p
  | cmdReserved b => exact Laws.EncodesToRow.cmdReserved b
  | frame a p => exact Laws.EncodesToRow.frame a p

/-- A row of event words is the row that its mnemonic names. -/
theorem rowNamed_mnemonic {r : Row} (hr : r ∈ evwRows) : Laws.rowNamed r.mnemonic = some r := by
  revert r; decide

/-- The row of the command bytes and the row of the frame hold of no event word: their widths differ. -/
theorem mem_evwRows_of_rowHolds {r : Row} {w : BitVec 24} (hr : r ∈ evwRows ++ otherRows)
    (h : rowHolds r (.evw w) = true) : r ∈ evwRows := by
  obtain hr | hr := List.mem_append.mp hr
  · exact hr
  · have hwidth : 24 = r.width := beq_iff_eq.mp (Bool.and_eq_true_iff.mp h).1
    have hother : ∀ r ∈ otherRows, r.width ≠ 24 := by decide
    exact absurd hwidth.symm (hother r hr)

/-- An event word that decodes lies in the row named by its instruction. -/
theorem rowNamed_of_decode_evw {w : BitVec 24} {i : Instr} (h : decode (.evw w) = .ok i) :
    ∃ r ∈ evwRows, Laws.rowNamed (mnemonicOf i) = some r ∧ rowHolds r (.evw w) = true := by
  have hrow := encodesToRow i
  rw [Laws.EncodesToRow.Statement, (encodeOfDecode _ _ h).2, Laws.inRow] at hrow
  cases hnamed : Laws.rowNamed (mnemonicOf i) with
  | none => rw [hnamed] at hrow; cases hrow
  | some r =>
    rw [hnamed] at hrow
    exact ⟨r, mem_evwRows_of_rowHolds (List.mem_of_find?_eq_some hnamed) hrow, rfl, hrow⟩

/-- Settles O5: a word of a row is the encoder's word for an instruction of that row, which the decoder reads back; and
the mnemonic names the row. -/
theorem eventWordsFollowTheTable : Obligations.EventWordsFollowTheTable := by
  refine ⟨fun w => ⟨fun ⟨i, h⟩ => ?inRow, fun ⟨r, hr, h⟩ => ?decodes⟩,
    fun w i r hdec hr => ⟨fun h => ?sameRow, fun h => ?holds⟩⟩
  case inRow =>
    obtain ⟨r, hr, -, hholds⟩ := rowNamed_of_decode_evw h
    exact ⟨r, hr, hholds⟩
  case decodes =>
    obtain ⟨i, hwf, henc, -⟩ := exists_encode_of_rowHolds hr h
    exact ⟨i, henc ▸ decodeOfEncode i hwf⟩
  case sameRow =>
    obtain ⟨j, hwf, henc, hname⟩ := exists_encode_of_rowHolds hr h
    have hj : decode (.evw w) = .ok j := henc ▸ decodeOfEncode j hwf
    rw [hdec] at hj
    cases hj
    exact hname.symm
  case holds =>
    obtain ⟨r', -, hnamed, hholds⟩ := rowNamed_of_decode_evw hdec
    rw [← h, rowNamed_mnemonic hr] at hnamed
    cases hnamed
    exact hholds

/-- Settles O1: the nine words are read bit by bit. -/
theorem sampleWordsDecode : Obligations.SampleWordsDecode := by
  refine ⟨?_, ?_, ?_, ?_, ?_, ?_, ?_, ?_, ?_⟩ <;> rfl

end Sys2Proof

/-! The operations as functions: what refuses an operation, and the state it answers where nothing does. Both are read
off the guards once, and the statements below about a refusal or a single operation go through them. -/

namespace Sys2Proof.Machine

/-- The refusal if there is one, else the state. -/
@[simp] def answer : Option Refusal → State → Result
  | none, t => .next t
  | some r, _ => .refused r

theorem answer_eq_next_iff {r : Option Refusal} {t u : State} : answer r t = .next u ↔ r = none ∧ u = t := by
  cases r <;> simp [eq_comm]

theorem answer_eq_refused_iff {r : Option Refusal} {t : State} {x : Refusal} :
    answer r t = .refused x ↔ r = some x := by
  cases r <;> simp

/-- What the host's guard refuses (R131). -/
def hostRefusal (s : State) : Option Refusal := if s.scan = .idle then none else some .hostInsideScan

/-- What the dispatcher's guard refuses (R131, R256). -/
def dispatcherRefusal (cfg : Config) (s : State) : Option Refusal :=
  match cfg.dispatchContext with
  | .mainLoop => hostRefusal s
  | .interrupt => none

/-- What refuses an operation (U14). -/
def refusalOf (cfg : Config) (i : Instr) (s : State) : Option Refusal :=
  match i with
  | .scanStart => if s.scan = .idle then none else some .scanRunning
  | .scanStep _ => if s.scan = .idle then some .noScanRunning else none
  | .beginSend _ _ | .key _ | .rgbRefresh => hostRefusal s
  | .txEvent => if s.phyPending = 0 then some .noByteInPhy else none
  | .rxTake => if s.rxFull then hostRefusal s else some .mailboxEmpty
  | .dispatch => if s.rxFull then dispatcherRefusal cfg s else some .mailboxEmpty
  | .actReset | .cmdU | .cmdDigit _ | .cmdReserved _ => dispatcherRefusal cfg s
  | .rxEvent _ | .tick | .frame _ _ => none

/-- The state an operation answers where nothing refuses it. -/
def nextState (cfg : Config) (i : Instr) (s : State) : State :=
  match i with
  | .scanStart => probeRow 0 s
  | .scanStep col => scanNext cfg col s
  | .beginSend a b => sendNext cfg a b (makeCall a b s)
  | .txEvent => txNext (reportSent s)
  | .rxEvent b => landByte b s
  | .rxTake => { emptyMailbox s with takeResult := some s.rxByte }
  | .tick => tickNext cfg s
  | .actReset => clearIdle s
  | .dispatch => dispatchNext s
  | .key k => keyNext cfg k s
  | .rgbRefresh => emit (dutyOf cfg (colorFor cfg s.lockState)) s
  | .cmdU => applyUnlock s
  | .cmdDigit p => applyDigit p s
  | .cmdReserved _ => applyReserved s
  | .frame a p => if ownsAddr cfg a then landByte p s else s

theorem whenHostFree_eq_answer (s t : State) : whenHostFree s t = answer (hostRefusal s) t := by
  by_cases h : s.scan = .idle <;> simp [whenHostFree, hostRefusal, h]

theorem whenDispatcherFree_eq_answer (cfg : Config) (s t : State) :
    whenDispatcherFree cfg s t = answer (dispatcherRefusal cfg s) t := by
  by_cases h : s.scan = .idle <;> cases hc : cfg.dispatchContext <;>
    simp [whenDispatcherFree, dispatcherRefusal, hostRefusal, h, hc]

/-- Every operation is its refusal and its next state. -/
theorem execIn_eq_answer (cfg : Config) (i : Instr) (s : State) :
    execIn cfg i s = answer (refusalOf cfg i s) (nextState cfg i s) := by
  cases i with
  | scanStart => by_cases h : s.scan = .idle <;> simp [execIn, execScanStart, refusalOf, nextState, h]
  | scanStep col => by_cases h : s.scan = .idle <;> simp [execIn, execScanStepIn, refusalOf, nextState, h]
  | txEvent => by_cases h : s.phyPending = 0 <;> simp [execIn, execTxEvent, refusalOf, nextState, h]
  | rxTake => cases h : s.rxFull <;> simp [execIn, execRxTake, refusalOf, nextState, h, whenHostFree_eq_answer]
  | dispatch =>
    cases h : s.rxFull <;> simp [execIn, execDispatchIn, refusalOf, nextState, h, whenDispatcherFree_eq_answer]
  | beginSend a b => exact whenHostFree_eq_answer _ _
  | key k => exact whenHostFree_eq_answer _ _
  | rgbRefresh => exact whenHostFree_eq_answer _ _
  | actReset => exact whenDispatcherFree_eq_answer _ _ _
  | cmdU => exact whenDispatcherFree_eq_answer _ _ _
  | cmdDigit p => exact whenDispatcherFree_eq_answer _ _ _
  | cmdReserved b => exact whenDispatcherFree_eq_answer _ _ _
  | rxEvent b => rfl
  | tick => rfl
  | frame a p => rfl

/-- An operation is refused exactly for the reason that `refusalOf` names. -/
theorem execIn_eq_refused_iff {cfg : Config} {i : Instr} {s : State} {x : Refusal} :
    execIn cfg i s = .refused x ↔ refusalOf cfg i s = some x := by
  rw [execIn_eq_answer, answer_eq_refused_iff]

/-- Where nothing refuses it, an operation answers its next state. -/
theorem execIn_of_enabled {cfg : Config} {i : Instr} {s : State} (h : refusalOf cfg i s = none) :
    execIn cfg i s = .next (nextState cfg i s) := by
  rw [execIn_eq_answer, h, answer]

theorem exec_of_enabled {i : Instr} {s : State} (h : refusalOf Config.platform i s = none) :
    exec i s = .next (nextState Config.platform i s) :=
  (exec_eq_execIn i s).trans (execIn_of_enabled h)

/-- The operation answers the next state and no other. -/
theorem NextOf.eq_nextState {cfg : Config} {i : Instr} {s t : State} (h : NextOf cfg i s t) :
    t = nextState cfg i s := by
  have hexec := execIn_eq_next_iff.mpr h
  rw [execIn_eq_answer] at hexec
  exact (answer_eq_next_iff.mp hexec).2

@[simp] theorem hostRefusal_of_idle {s : State} (h : s.scan = .idle) : hostRefusal s = none := if_pos h

@[simp] theorem hostRefusal_of_scan {s : State} (h : s.scan ≠ .idle) : hostRefusal s = some .hostInsideScan := if_neg h

@[simp] theorem dispatcherRefusal_of_interrupt {cfg : Config} (s : State) (h : cfg.dispatchContext = .interrupt) :
    dispatcherRefusal cfg s = none := by simp only [dispatcherRefusal, h]

theorem dispatcherRefusal_of_mainLoop {cfg : Config} (s : State) (h : cfg.dispatchContext = .mainLoop) :
    dispatcherRefusal cfg s = hostRefusal s := by simp only [dispatcherRefusal, h]

@[simp] theorem dispatcherRefusal_of_idle (cfg : Config) {s : State} (h : s.scan = .idle) :
    dispatcherRefusal cfg s = none := by
  cases hc : cfg.dispatchContext <;> simp [dispatcherRefusal, hostRefusal, h, hc]

end Sys2Proof.Machine

/-! Steps and traces, what a scan refuses, and the scanner's single steps. -/

namespace Sys2Proof.Machine

/-! Steps and traces (R105, R108, R276). -/

/-- Settles O2: `step` by the next word of the stimulus and by what the decoder makes of it. -/
theorem stepRunsTheDecodedInstruction : Obligations.StepRunsTheDecodedInstruction := by
  refine ⟨fun s w rest i hs hw => ?decodes, fun s w rest e hs hw => ?invalid, fun s hs => ?noEvent⟩
  case decodes =>
    simp only [step, hs, hw]
    rfl
  case invalid => simp only [step, hs, hw]
  case noEvent => simp only [step, hs]

/-- One word that decodes to nothing makes the trace decode to nothing, wherever it stands (R105). -/
theorem decodeAll_of_invalid {ws : List Word} {w : Word} {e : DecodeError} (hmem : w ∈ ws) (hw : decode w = .error e) :
    ∃ e', decodeAll ws = .error e' := by
  induction ws with
  | nil => cases hmem
  | cons x rest ih =>
    cases hx : decode x with
    | error e' => exact ⟨e', by simp only [decodeAll, hx]⟩
    | ok i =>
      have hrest : w ∈ rest := by
        obtain rfl | hrest := List.mem_cons.mp hmem
        · rw [hx] at hw
          cases hw
        · exact hrest
      obtain ⟨e', he⟩ := ih hrest
      exact ⟨e', by simp only [decodeAll, hx, he]⟩

/-- A trace that runs ends in a state in which a trace may end (R276). -/
theorem endsWell_of_runTrace {cfg : Config} {ws : List Word} {s t : State} (h : runTrace cfg ws s = .next t) :
    endsWell t = true := by
  unfold runTrace at h
  split at h
  · cases h
  · split at h
    case h_1 u _ =>
      by_cases hu : endsWell u = true
      · rw [if_pos hu] at h
        cases h
        exact hu
      · rw [if_neg hu] at h
        cases h
    all_goals cases h

theorem endsWell_iff (s : State) : endsWell s = true ↔ s.scan = .idle ∧ s.hostTodo = [] := by simp [endsWell]

/-- Settles O7: the words are decoded before the first of them runs, and the end is looked at after the last. -/
theorem tracesAreRefusedWhole : Obligations.TracesAreRefusedWhole := by
  refine ⟨fun cfg ws s w e hmem hw => ?_, fun cfg ws s t h => (endsWell_iff t).mp (endsWell_of_runTrace h)⟩
  obtain ⟨e', he⟩ := decodeAll_of_invalid hmem hw
  exact ⟨e', by simp only [runTrace, he]⟩

/-- Settles O8: the reset state, element by element. -/
theorem resetValues : Obligations.ResetValues := by
  refine ⟨rfl, rfl, rfl, rfl, rfl, rfl, rfl, rfl, rfl, rfl, rfl, rfl, rfl, fun n => ?_, rfl⟩
  cases n <;> rfl

/-! What a scan refuses (R131). -/

/-- Settles O9: the scanner's state is the one guard of `SCAN_START`, and what it answers is the drive of row 0. -/
theorem scanStartBeginsAScan : Obligations.ScanStartBeginsAScan :=
  ⟨fun _ hs => exec_of_enabled (if_pos hs), fun _ hs => if_neg hs⟩

/-- Inside a scan every step of the host is refused: `SCAN_START` by its own rule, the others by the guards (R121,
R131). -/
theorem refusalOf_hostStep {cfg : Config} {i : Instr} {s : State} (hs : s.scan ≠ .idle) (hi : hostStep cfg i = true) :
    ∃ x, refusalOf cfg i s = some x := by
  have hpolled (hcfg : (cfg.dispatchContext == .mainLoop) = true) : dispatcherRefusal cfg s = some .hostInsideScan :=
    (dispatcherRefusal_of_mainLoop s (beq_iff_eq.mp hcfg)).trans (hostRefusal_of_scan hs)
  cases i with
  | scanStart => exact ⟨_, if_neg hs⟩
  | beginSend a b => exact ⟨_, hostRefusal_of_scan hs⟩
  | key k => exact ⟨_, hostRefusal_of_scan hs⟩
  | rgbRefresh => exact ⟨_, hostRefusal_of_scan hs⟩
  | rxTake => cases h : s.rxFull <;> simp [refusalOf, h, hs]
  | dispatch => cases h : s.rxFull <;> simp [refusalOf, h, hpolled hi]
  | actReset => exact ⟨_, hpolled hi⟩
  | cmdU => exact ⟨_, hpolled hi⟩
  | cmdDigit p => exact ⟨_, hpolled hi⟩
  | cmdReserved b => exact ⟨_, hpolled hi⟩
  | scanStep _ | txEvent | rxEvent _ | tick | frame _ _ => cases hi

/-- Settles O19: the guards refuse the host; the interrupt steps have no guard on the scan, and none writes it. -/
theorem scanBlocksTheHostOnly : Obligations.ScanBlocksTheHostOnly := by
  refine ⟨fun cfg i s hs hi => ?host,
    fun cfg s _ => ⟨fun b => ⟨_, rfl, landByte_scan b s⟩, ⟨_, rfl, rfl⟩, fun hp => ?sent⟩⟩
  case host =>
    obtain ⟨x, hx⟩ := refusalOf_hostStep hs hi
    exact ⟨x, execIn_eq_refused_iff.mpr hx⟩
  case sent => exact ⟨_, execIn_of_enabled (if_neg hp), (txNext_scanner (reportSent s)).1⟩

/-! Single scanner steps (R123 to R125). -/

/-- A column reads low exactly when its line is 0 (R93). -/
theorem columnLow_of_low {col : Lines} {c : Fin 4} (h : col.getLsbD c.val = false) : columnLow col c = true := by
  rw [columnLow, h, Bool.not_false]

theorem columnLow_of_high {col : Lines} {c : Fin 4} (h : col.getLsbD c.val = true) : columnLow col c = false := by
  rw [columnLow, h, Bool.not_true]

/-- With every column high a probe goes to the next row, or ends the scan after row 3 (R123). -/
theorem execIn_scanStep_of_noContact (cfg : Config) {s : State} {r : Fin 4} (hs : s.scan = .probe r) :
    execIn cfg (.scanStep rowsHigh) s = .next (if r = 3 then finishNoKey s else probeRow (r + 1) s) := by
  refine execIn_eq_next_iff.mpr ⟨by simp [hs], ?_⟩
  simp only [scanNext, hs, probeNext, lowestZero_rowsHigh]

/-- Settles O10: a contact is the lowest column that reads low, and with none the row is passed over. -/
theorem scanStepProbesARow : Obligations.ScanStepProbesARow := by
  refine ⟨fun s r c col hs hlow hlowest => ?contact, fun s r r' hs hr => ?nextRow, fun s hs => ?lastRow,
    fun s col hs => if_pos hs⟩
  case contact =>
    have hc : lowestZero col = some c :=
      (lowestZero_eq_some_iff col c).mpr ⟨columnLow_of_low hlow, fun d hd => columnLow_of_high (hlowest d hd)⟩
    exact (exec_eq_execIn _ s).trans (execIn_scanStep_of_contact _ hs hc)
  case nextRow =>
    have hne : r ≠ 3 := Fin.ne_of_val_ne (by simp; omega)
    have hnext : r + 1 = r' := Fin.ext (by rw [Fin.val_add]; simp; omega)
    have hrun := execIn_scanStep_of_noContact Config.platform hs
    rw [if_neg hne, hnext] at hrun
    exact (exec_eq_execIn _ s).trans hrun
  case lastRow => exact (exec_eq_execIn _ s).trans (execIn_scanStep_of_noContact _ hs)

/-- Settles O11: a settle step is a step of the settle delay, and the last one leaves nothing of it. -/
theorem scanStepSettles : Obligations.ScanStepSettles := by
  intro s r c n col hs hn
  rw [exec_eq_execIn]
  refine execIn_eq_next_iff.mpr ⟨by simp [hs], ?_⟩
  by_cases h1 : n = 1
  · simp [scanNext, hs, settleNext, h1]
  · have hle : ¬ n ≤ 1 := by omega
    simp [scanNext, hs, settleNext, h1, hle]

/-- In WAIT a closed sample of the contact's column holds the scan, or ends it at the timeout (R125, R133). -/
theorem execIn_scanStep_of_hold (cfg : Config) {s : State} {r c : Fin 4} {held : Nat} {col : Lines}
    (hs : s.scan = .wait r c held) (hcol : col.getLsbD c.val = false) :
    execIn cfg (.scanStep col) s = .next (holdNext cfg r c held s) := by
  refine execIn_eq_next_iff.mpr ⟨by simp [hs], ?_⟩
  simp [scanNext, hs, waitNext, columnLow_of_low hcol]

/-- Settles O12: column `c` of the sample alone decides between a release and a hold. -/
theorem scanStepWaitsForRelease : Obligations.ScanStepWaitsForRelease := by
  intro s r c held col hs k completed
  rw [exec_eq_execIn]
  refine ⟨fun hopen => execIn_scanStep_of_release _ hs hopen, fun hclosed => ?_⟩
  rw [execIn_scanStep_of_hold _ hs hclosed]
  unfold holdNext
  cases Config.platform.releaseTimeout <;> rfl

end Sys2Proof.Machine

/-! Runs of the scanner from its WAIT state and from its start, and the calls of the transmit half. -/

namespace Sys2Proof.Machine

/-! Holds and presses (R111, R129, R133). -/

/-- Without a timeout a closed sample changes nothing (R129). -/
theorem holdNext_of_unbounded {cfg : Config} (r c : Fin 4) (held : Nat) (s : State) (h : cfg.releaseTimeout = none) :
    holdNext cfg r c held s = s := by simp only [holdNext, h]

/-- With a timeout a closed sample is counted until the count comes to the bound (R133). -/
theorem holdNext_of_bounded {cfg : Config} {n : Nat} (r c : Fin 4) (held : Nat) (s : State)
    (h : cfg.releaseTimeout = some n) : holdNext cfg r c held s =
      if n ≤ held + 1 then finishKey (keyAt cfg r c) s else { s with scan := .wait r c (held + 1) } := by
  simp only [holdNext, h]

/-- Without a timeout any number of closed samples changes nothing (R129). -/
theorem runIn_hold_of_unbounded {cfg : Config} {s : State} {r c : Fin 4} {held : Nat} {cols : List Lines}
    (h : cfg.releaseTimeout = none) (hs : s.scan = .wait r c held) (hcols : ∀ col ∈ cols, col.getLsbD c.val = false) :
    runIn cfg (cols.map .scanStep) s = .next s := by
  induction cols with
  | nil => rfl
  | cons col cols ih =>
    have hstep := execIn_scanStep_of_hold cfg hs (hcols col List.mem_cons_self)
    rw [holdNext_of_unbounded r c held s h] at hstep
    rw [List.map_cons, runIn_cons_of_next _ hstep, ih fun col' hmem => hcols col' (List.mem_cons_of_mem _ hmem)]

/-- Closed samples that do not bring the count to the bound are only counted (R133). -/
theorem runIn_hold_of_bounded {cfg : Config} {n : Nat} {s : State} {r c : Fin 4} {held : Nat} {cols : List Lines}
    (h : cfg.releaseTimeout = some n) (hs : s.scan = .wait r c held) (hcols : ∀ col ∈ cols, col.getLsbD c.val = false)
    (hlen : held + cols.length < n) :
    runIn cfg (cols.map .scanStep) s = .next { s with scan := .wait r c (held + cols.length) } := by
  induction cols generalizing s held with
  | nil => simp [← hs]
  | cons col cols ih =>
    rw [List.length_cons] at hlen
    have hstep := execIn_scanStep_of_hold cfg hs (hcols col List.mem_cons_self)
    rw [holdNext_of_bounded r c held s h, if_neg (by omega)] at hstep
    rw [List.map_cons, runIn_cons_of_next _ hstep,
      ih rfl (fun col' hmem => hcols col' (List.mem_cons_of_mem _ hmem)) (by omega), List.length_cons,
      Nat.add_right_comm, Nat.add_assoc]

/-- Settles O16: each closed sample holds, and the one that brings the count to the bound, the last of `n`, ends the
scan. -/
theorem heldKeyEndsOnlyAtTheTimeout : Obligations.HeldKeyEndsOnlyAtTheTimeout := by
  intro cfg s r c cols hs hcols
  refine ⟨fun h => runIn_hold_of_unbounded h hs hcols, fun n h hlt => ?counting, fun n h hpos hlen => ?timeout⟩
  case counting =>
    have hrun := runIn_hold_of_bounded h hs hcols (by omega)
    rwa [Nat.zero_add] at hrun
  case timeout =>
    obtain ⟨rest, col, rfl⟩ : ∃ rest col, cols = rest ++ [col] :=
      ⟨_, _, (List.dropLast_append_getLast (List.ne_nil_of_length_pos (by omega))).symm⟩
    obtain ⟨hrest, hcol⟩ := List.forall_mem_append.mp hcols
    rw [List.length_append, List.length_singleton] at hlen
    have hrun := runIn_hold_of_bounded h hs hrest (by omega)
    have hlast := execIn_scanStep_of_hold cfg (s := { s with scan := .wait r c (0 + rest.length) }) rfl
      (hcol col List.mem_cons_self)
    rw [holdNext_of_bounded _ _ _ _ h, if_pos (by omega)] at hlast
    rw [List.map_append, runIn_append_of_next hrun]
    exact runIn_cons_of_next [] hlast

/-- The scanner at contact `(r, c)` with its row driven, before any closed sample was counted. -/
def waitingAt (r c : Fin 4) (s : State) : State := { probeRow r s with scan := .wait r c 0 }

/-- As many samples as the settle delay, whatever they are, take a scan that found its contact to the WAIT state (R124). -/
theorem runIn_replicate_settle (cfg : Config) (r c : Fin 4) (col : Lines) (s : State) :
    runIn cfg (List.replicate cfg.debounceDelay (.scanStep col))
      { probeRow r s with scan := settling r c cfg.debounceDelay } = .next (waitingAt r c s) := by
  have hrun := runIn_scanStep_of_settling cfg (probeRow r s) r c (List.replicate cfg.debounceDelay col) 0
  rwa [List.length_replicate, Nat.zero_add, List.map_replicate] at hrun

/-- A column held low holds the scan that waits for it (R129). -/
theorem runIn_replicate_hold {cfg : Config} (r c : Fin 4) (w : Nat) (s : State) (h : cfg.releaseTimeout = none) :
    runIn cfg (List.replicate w (.scanStep (oneCold c))) (waitingAt r c s) = .next (waitingAt r c s) := by
  have hlow : (oneCold c).getLsbD c.val = false := by revert c; decide
  rw [← List.map_replicate]
  refine runIn_hold_of_unbounded h rfl fun col hmem => ?_
  rw [List.eq_of_mem_replicate hmem, hlow]

/-- The release ends the scan with the key of the contact (R125). -/
theorem execIn_scanStep_release (cfg : Config) (r c : Fin 4) (s : State) :
    execIn cfg (.scanStep rowsHigh) (waitingAt r c s) = .next (finishKey (keyAt cfg r c) (waitingAt r c s)) := by
  have hhigh : rowsHigh.getLsbD c.val = true := by revert c; decide
  exact execIn_scanStep_of_release cfg rfl hhigh

/-- Settles O15: the probes pass the rows before `r`, the delay settles, the hold changes nothing, and the release
latches the key. -/
theorem pressYieldsItsKeyOnce : Obligations.PressYieldsItsKeyOnce := by
  intro cfg r c w s h hs
  have hstart : execIn cfg .scanStart s = .next (probeRow 0 s) := execIn_of_enabled (if_pos hs)
  have hrows : runIn cfg (List.replicate r.val (.scanStep 0b1111#4)) (probeRow 0 s) = .next (probeRow r s) :=
    runIn_replicate_rowsHigh cfg s r.val r.isLt
  have hfind := execIn_scanStep_of_contact cfg (probeRow_scan r s) (lowestZero_oneCold c)
  calc runIn cfg (press cfg r c w) s
      = runIn cfg (List.replicate cfg.debounceDelay (.scanStep (oneCold c))
          ++ (List.replicate w (.scanStep (oneCold c)) ++ [.scanStep 0b1111#4]))
          { probeRow r s with scan := settling r c cfg.debounceDelay } := by
        rw [press, runIn_cons_of_next _ hstart, runIn_append_of_next hrows, runIn_cons_of_next _ hfind]
    _ = runIn cfg [.scanStep 0b1111#4] (waitingAt r c s) := by
        rw [runIn_append_of_next (runIn_replicate_settle cfg r c _ s),
          runIn_append_of_next (runIn_replicate_hold r c w s h)]
    _ = .next (finishKey (keyAt cfg r c) (waitingAt r c s)) := runIn_cons_of_next [] (execIn_scanStep_release cfg r c s)
    _ = _ := by simp [finishKey, emit, waitingAt, probeRow, hs, rowsHigh]

/-! Sends (R161 to R164, R175, R193). -/

/-- A call leaves the list when it stands at its head (R193). -/
theorem todoAfter_eq_ite (a b : Byte) (l : List SendReq) :
    todoAfter a b l = if l.head? = some ⟨a, b⟩ then l.tail else l := by
  cases l <;> simp [todoAfter]

/-- Settles O20: one case per value of the cursor, and in the address phase one per policy. -/
theorem beginSendByCursor : Obligations.BeginSendByCursor := by
  intro s a b hs called loaded started
  have hrun : exec (.beginSend a b) s = .next (sendNext Config.platform a b (makeCall a b s)) :=
    exec_of_enabled (hostRefusal_of_idle hs)
  have hcall : makeCall a b s = called := by simp only [makeCall, todoAfter_eq_ite]; rfl
  rw [hrun, hcall]
  have hcur : called.txIndex = s.txIndex := rfl
  refine ⟨fun ht => ?_, fun ht => ?_, fun ht => ?_⟩ <;> simp only [sendNext, hcur, ht]
  · rfl
  · rfl
  · unfold overwriteFrame
    cases Config.platform.overwritePolicy <;> simp [note, emitStart, emit, loadFrame, loaded, started, called, ht]

/-- While another send is due, a host step is out of turn (R193). -/
theorem hostInTurn_eq_false {cfg : Config} {i : Instr} {s : State} {r : SendReq} {rest : List SendReq}
    (htodo : s.hostTodo = r :: rest) (hi : hostStep cfg i = true) (hne : i ≠ .beginSend r.addr r.payload) :
    hostInTurn cfg i s = false := by
  rw [Bool.eq_false_iff, Ne, hostInTurn_of_cons htodo, hi]
  simp [hne]

/-- A trace of the host program does not go on out of turn (R193). -/
theorem runHost_of_outOfTurn {cfg : Config} {i : Instr} {s : State} (is : List Instr) (h : hostInTurn cfg i s = false) :
    runHost cfg (i :: is) s = .refused .sendsPending := by simp [runHost, h]

/-- Settles O21: outside a scan nothing refuses the call, and out of turn the trace is refused before the call is made.
-/
theorem beginSendTurnedAway : Obligations.BeginSendTurnedAway := by
  refine ⟨fun s a b hs => if_neg hs, fun s a b hs => ⟨_, exec_of_enabled (hostRefusal_of_idle hs)⟩,
    fun cfg s a b r rest is htodo hne => runHost_of_outOfTurn is (hostInTurn_eq_false htodo rfl ?_)⟩
  rintro ⟨⟩
  exact hne rfl

/-- In the address phase a call under `buffer_only` overwrites the buffer, and that is noted (R163). -/
theorem execIn_beginSend_of_addrSent {cfg : Config} {s : State} (a b : Byte) (hp : cfg.overwritePolicy = .bufferOnly)
    (hs : s.scan = .idle) (ht : s.txIndex = .addrSent) :
    execIn cfg (.beginSend a b) s = .next (note .transferOverwrite (loadFrame a b (makeCall a b s))) := by
  refine execIn_eq_next_iff.mpr ⟨hs, ?_⟩
  have ht' : (makeCall a b s).txIndex = .addrSent := ht
  simp only [sendNext, ht', overwriteFrame, hp]

/-- Settles O24: the second call reaches the buffer alone, which the address byte's event then hands to the PHY. -/
theorem hybridFrameOnOverwrite : Obligations.HybridFrameOnOverwrite := by
  intro cfg a b a' b' s hp hs ht
  have hcalls (is : List Instr) : runIn cfg (.beginSend a b :: .beginSend a' b' :: is) s = runIn cfg is { s with
      hostTodo := todoAfter a' b' (todoAfter a b s.hostTodo), txAddr := a', txPayload := b', txIndex := .addrSent,
      out := s.out ++ [.start a], phyPending := s.phyPending + 1, gTransferOverwrite := true } := by
    have hsecond := execIn_beginSend_of_addrSent (s := startFrame a b (makeCall a b s)) a' b' hp hs rfl
    rw [runIn_cons_of_next _ (execIn_beginSend_of_idle a b hs ht), runIn_cons_of_next _ hsecond]
    simp only [note, loadFrame, makeCall, startFrame, emitStart, emit]
  refine ⟨hcalls [], ?_⟩
  rw [hcalls, runIn_txEvent_txEvent_of_addrSent rfl (Nat.succ_ne_zero _)]
  simp [ht]

/-- Settles O25: without an event between them the two calls are those of a hybrid frame, of one payload; with both
events of the first frame between them each is an undisturbed frame. -/
theorem pairedSends : Obligations.PairedSends := by
  intro cfg b s hp hs ht left
  refine ⟨(hybridFrameOnOverwrite cfg cfg.addrLed b cfg.addrLcd b s hp hs ht).2, ?_⟩
  rw [runIn_append_of_next (runIn_frameOk cfg.addrLed b hs ht)]
  refine (runIn_frameOk cfg.addrLcd b ?_ ?_).trans ?_
  · exact hs
  · exact ht
  · simp [left]

end Sys2Proof.Machine

/-! Single operations of the receive half, the monitor, the dispatcher, the colour mapper and the unlock state machine.
-/

namespace Sys2Proof.Machine

/-! The receive half (R73, R169). -/

/-- Settles O33: the mailbox is looked at first, the scan second. -/
theorem rxTakeEmptiesTheMailbox : Obligations.RxTakeEmptiesTheMailbox := by
  refine ⟨fun s hfull hs => ?taken, fun s hfull hs => ?insideScan, fun s hempty => ?empty⟩
  case taken => exact exec_of_enabled (by simp [refusalOf, hfull, hs])
  case insideScan =>
    rw [exec_eq_execIn, execIn_eq_refused_iff]
    simp [refusalOf, hfull, hs]
  case empty =>
    rw [exec_eq_execIn, execIn_eq_refused_iff]
    simp [refusalOf, hempty]

/-- Settles O34: the filter decides whether the payload lands. -/
theorem frameReachesItsOwnerOnly : Obligations.FrameReachesItsOwnerOnly := by
  intro s a p
  refine (exec_of_enabled (i := .frame a p) rfl).trans (congrArg _ ?_)
  by_cases ha : a ∈ Config.platform.ownAddrs
  · simp [nextState, ownsAddr, ha, landByte_eq]
  · simp [nextState, ownsAddr, ha]

/-! The dispatcher and its monitor (R206 to R211, R221, R223). -/

/-- Settles O36: the activity reset runs under the dispatcher's guard. -/
theorem actResetClearsTheCount : Obligations.ActResetClearsTheCount := by
  refine ⟨rfl, fun s hs => exec_of_enabled (dispatcherRefusal_of_idle _ hs),
    fun cfg s hc => execIn_of_enabled (dispatcherRefusal_of_interrupt s hc), fun cfg s hc hs => ?_⟩
  rw [execIn_eq_refused_iff]
  exact (dispatcherRefusal_of_mainLoop s hc).trans (hostRefusal_of_scan hs)

/-- The guard of `DISPATCH` lets a waiting byte through where the dispatcher is free. -/
theorem refusalOf_dispatch_of_full {cfg : Config} {s : State} (hfull : s.rxFull = true) :
    refusalOf cfg .dispatch s = dispatcherRefusal cfg s := if_pos hfull

/-- Settles O40: the tick decides the LED by the count it finds, which is 0 after an observation. -/
theorem tickAndDispatchInEitherOrder : Obligations.TickAndDispatchInEitherOrder := by
  intro cfg s hfull hs hthr
  have hdispatch {u : State} (hu : u.rxFull = true) (hidle : u.scan = .idle) :
      execIn cfg .dispatch u = .next (dispatchNext u) :=
    execIn_of_enabled ((refusalOf_dispatch_of_full hu).trans (dispatcherRefusal_of_idle cfg hidle))
  have htick (u : State) : execIn cfg .tick u = .next (tickNext cfg u) := rfl
  have hone : satInc cfg (dispatchNext s).idleTicks = 1 := by rw [(dispatchNext_monitor s).1, satInc_zero hthr]
  refine ⟨⟨dispatchNext (tickNext cfg s), ?_, ?_, ?_⟩, ⟨tickNext cfg (dispatchNext s), ?_, hone, ?_⟩⟩
  · rw [runIn_cons_of_next _ (htick s), runIn_cons_of_next _ (hdispatch (u := tickNext cfg s) hfull hs), runIn_nil]
  · exact (dispatchNext_monitor _).1
  · exact (dispatchNext_monitor _).2
  · rw [runIn_cons_of_next _ (hdispatch hfull hs), runIn_cons_of_next _ (htick _), runIn_nil]
  · exact ledAfter_of_lt _ (by omega)

/-- What the dispatcher leaves, as one update of the state for each command (R206 to R209). -/
theorem dispatchNext_of_unlock {s : State} (h : decodeCommand s.rxByte = .unlock) :
    dispatchNext s = { s with rxFull := false, idleTicks := 0, unlocked := true } := by
  simp only [dispatchNext, h]
  rfl

theorem dispatchNext_of_digit {s : State} {p : BitVec 3} (h : decodeCommand s.rxByte = .digit p) :
    dispatchNext s = if s.unlocked
      then { s with rxFull := false, idleTicks := 0, activePattern := p, out := s.out ++ [.render p] }
      else { s with rxFull := false, idleTicks := 0 } := by
  simp only [dispatchNext, h]
  rfl

theorem dispatchNext_of_reserved {s : State} (h : decodeCommand s.rxByte = .reserved) :
    dispatchNext s = { s with rxFull := false, idleTicks := 0, gMalformedReceive := true } := by
  simp only [dispatchNext, h]
  rfl

/-- Settles O46: outside a scan the dispatcher is free, and what it leaves goes by the command the byte carries. -/
theorem dispatchByCommand : Obligations.DispatchByCommand := by
  constructor
  · intro s hfull hs taken
    rw [exec_of_enabled ((refusalOf_dispatch_of_full hfull).trans (dispatcherRefusal_of_idle _ hs)), nextState]
    cases hcmd : decodeCommand s.rxByte with
    | unlock => rw [dispatchNext_of_unlock hcmd]
    | digit p => rw [dispatchNext_of_digit hcmd]
    | reserved => rw [dispatchNext_of_reserved hcmd]
  · intro s hempty
    rw [exec_eq_execIn, execIn_eq_refused_iff]
    simp [refusalOf, hempty]

/-- Settles O47: an interrupt-driven dispatcher has no guard but the mailbox, and a polled one has the host's. -/
theorem dispatchContextMatters : Obligations.DispatchContextMatters := by
  constructor
  · intro cfg s hc hfull taken
    rw [execIn_of_enabled ((refusalOf_dispatch_of_full hfull).trans (dispatcherRefusal_of_interrupt s hc)), nextState]
    cases hcmd : decodeCommand s.rxByte with
    | unlock => rw [dispatchNext_of_unlock hcmd]
    | digit p => rw [dispatchNext_of_digit hcmd]
    | reserved => rw [dispatchNext_of_reserved hcmd]
  · intro cfg s hc hfull hs
    rw [execIn_eq_refused_iff, refusalOf_dispatch_of_full hfull, dispatcherRefusal_of_mainLoop s hc,
      hostRefusal_of_scan hs]

/-- Where the dispatcher is free the command bytes have their own effect and no other (R207 to R209). -/
theorem execIn_command_of_free {cfg : Config} {s : State} (h : dispatcherRefusal cfg s = none) :
    execIn cfg .cmdU s = .next { s with unlocked := true } ∧
    (∀ p, execIn cfg (.cmdDigit p) s = .next
      (if s.unlocked then { s with activePattern := p, out := s.out ++ [.render p] } else s)) ∧
    ∀ b, execIn cfg (.cmdReserved b) s = .next { s with gMalformedReceive := true } :=
  ⟨execIn_of_enabled h, fun _ => execIn_of_enabled h, fun _ => execIn_of_enabled h⟩

/-- Settles O48: the three arms under the dispatcher's guard. -/
theorem commandBytes : Obligations.CommandBytes := by
  refine ⟨fun s hs => ?outsideScan, fun cfg s hc => execIn_command_of_free (dispatcherRefusal_of_interrupt s hc),
    fun cfg s i hc hs hi => ?insideScan⟩
  case outsideScan =>
    simp only [exec_eq_execIn]
    exact execIn_command_of_free (dispatcherRefusal_of_idle _ hs)
  case insideScan =>
    have hrefused : dispatcherRefusal cfg s = some .hostInsideScan :=
      (dispatcherRefusal_of_mainLoop s hc).trans (hostRefusal_of_scan hs)
    rw [execIn_eq_refused_iff]
    obtain rfl | ⟨p, rfl⟩ | ⟨b, rfl⟩ := hi <;> exact hrefused

/-! The colour mapper (R153). -/

/-- Settles O44: the colour of the lock state, scaled channel by channel. -/
theorem rgbRefreshEmitsDuty : Obligations.RgbRefreshEmitsDuty := by
  intro s hs k duty
  have hk : colorFor Config.platform s.lockState = k := by
    cases h : s.lockState <;> simp only [k, h, colorFor]
  rw [exec_of_enabled (i := .rgbRefresh) (hostRefusal_of_idle hs), nextState, hk]
  rfl

/-! The unlock state machine (R191 to R197). -/

theorem execIn_key_of_idle (cfg : Config) {s : State} (k : Byte) (hs : s.scan = .idle) :
    execIn cfg (.key k) s = .next (keyNext cfg k s) := execIn_of_enabled (hostRefusal_of_idle hs)

/-- While locked, the character that the cursor asks for is accepted and every other one rejected (R191, R194). -/
theorem keyNext_of_right {cfg : Config} {k : Byte} {s : State} (hlock : s.lockState ≠ .unlocked)
    (hk : k = codeAt cfg s.codeIndex) : keyNext cfg k s = acceptKey cfg s := by
  rw [keyNext, if_neg hlock, if_pos hk]

theorem keyNext_of_wrong {cfg : Config} {k : Byte} {s : State} (hlock : s.lockState ≠ .unlocked)
    (hk : k ≠ codeAt cfg s.codeIndex) : keyNext cfg k s = rejectKey s := by
  rw [keyNext, if_neg hlock, if_neg hk]

/-- While unlocked, the relock key re-locks and every other key is forwarded (R195, R196). -/
theorem keyNext_of_unlocked {cfg : Config} {k : Byte} {s : State} (hlock : s.lockState = .unlocked) :
    keyNext cfg k s = if cfg.relockPolicy = .key k then relock s else forwardKey cfg k s := by
  rw [keyNext, if_pos hlock, unlockedKey]
  cases cfg.relockPolicy <;> simp [eq_comm]

/-- Settles O41: the four ways of the transition function. -/
theorem keyByLockState : Obligations.KeyByLockState := by
  intro s k hs sends
  rw [exec_eq_execIn, execIn_key_of_idle _ k hs]
  refine ⟨fun hlock hk hlast => ?last, fun j hlock hk hj => ?advance, fun hlock hk => ?wrong, fun hlock => ?unlocked⟩
  case last => rw [keyNext_of_right hlock hk, acceptKey, if_pos hlast]; rfl
  case advance =>
    have hne : s.codeIndex ≠ 3 := Fin.ne_of_val_ne (by simp; omega)
    have hnext : nextCode s.codeIndex = j := Fin.ext (by rw [nextCode, Fin.val_add]; simp; omega)
    rw [keyNext_of_right hlock hk, acceptKey, if_neg hne, hnext]
  case wrong => rw [keyNext_of_wrong hlock hk]; rfl
  case unlocked => rw [keyNext_of_unlocked hlock]; rfl

/-- The unlock code, character by character (R190). -/
theorem unlockCode_toList (cfg : Config) :
    cfg.unlockCode.toList = [codeAt cfg 0, codeAt cfg 1, codeAt cfg 2, codeAt cfg 3] := by
  refine List.ext_getElem (by simp) fun n hn _ => ?_
  have hlt : n < 4 := by simpa using hn
  interval_cases n <;> rfl

/-- The unlock code entered as far as position `i` (R197). -/
def enteringAt (i : Fin 4) (s : State) : State := { s with codeIndex := i, lockState := .entering }

/-- The right character before the last position moves the cursor on (R191). -/
theorem execIn_key_advance {cfg : Config} {s : State} {i : Fin 4} (hs : s.scan = .idle)
    (hlock : s.lockState ≠ .unlocked) (hi : s.codeIndex = i) (hlast : i ≠ 3) :
    execIn cfg (.key (codeAt cfg i)) s = .next (enteringAt (nextCode i) s) := by
  subst hi
  rw [execIn_key_of_idle cfg _ hs, keyNext_of_right hlock rfl, acceptKey, if_neg hlast, enteringAt]

/-- The right character at the last position unlocks (R191). -/
theorem execIn_key_unlock {cfg : Config} {s : State} (hs : s.scan = .idle) (hlock : s.lockState ≠ .unlocked)
    (hi : s.codeIndex = 3) : execIn cfg (.key (codeAt cfg 3)) s =
      .next { s with codeIndex := 0, lockState := .unlocked, hostTodo := bothSends cfg charU } := by
  rw [execIn_key_of_idle cfg _ hs, keyNext_of_right hlock (hi ▸ rfl), acceptKey, if_pos hi]

/-- Settles O43: three characters move the cursor from 0 to 3, and the fourth unlocks. -/
theorem unlockCodeUnlocks : Obligations.UnlockCodeUnlocks := by
  intro cfg s hs hlock hcode
  have hlocked : s.lockState ≠ .unlocked := by rw [hlock]; nofun
  have hfirst := execIn_key_advance (cfg := cfg) hs hlocked hcode (by decide)
  have hnext (i : Fin 4) (hi : i ≠ 3) :
      execIn cfg (.key (codeAt cfg i)) (enteringAt i s) = .next (enteringAt (nextCode i) s) :=
    execIn_key_advance (s := enteringAt i s) hs nofun rfl hi
  have hlast := execIn_key_unlock (cfg := cfg) (s := enteringAt 3 s) hs nofun rfl
  calc runIn cfg (cfg.unlockCode.toList.map .key) s
      = runIn cfg [.key (codeAt cfg 2), .key (codeAt cfg 3)] (enteringAt 2 s) := by
        rw [unlockCode_toList]
        exact (runIn_cons_of_next _ hfirst).trans (runIn_cons_of_next _ (hnext 1 (by decide)))
    _ = _ := (runIn_cons_of_next _ (hnext 2 (by decide))).trans (runIn_cons_of_next _ hlast)
    _ = _ := by
      rw [runIn_nil, ← hcode]
      rfl

end Sys2Proof.Machine

/-! Runs of the display node: the unlock byte received again and again (R207), and the monitor against an unbounded
counter (R222, R225). -/

namespace Sys2Proof.Machine

/-! The unlock byte received again and again (R207). -/

/-- A node with no scan running that has received and dispatched `'U'`. -/
def afterUnlockByte (s : State) : State :=
  { s with rxByte := 0x55#8, rxFull := false, gRxLost := s.gRxLost || s.rxFull, idleTicks := 0, unlocked := true }

/-- A second `'U'` finds what the first one left: an empty mailbox, so no byte is lost. -/
theorem afterUnlockByte_idem (s : State) : afterUnlockByte (afterUnlockByte s) = afterUnlockByte s := by
  simp [afterUnlockByte]

/-- One pair of operations, wherever it stands in a run. -/
theorem runIn_unlockByte (cfg : Config) {s : State} (is : List Instr) (hs : s.scan = .idle) :
    runIn cfg ([.rxEvent 0x55#8, .dispatch] ++ is) s = runIn cfg is (afterUnlockByte s) := by
  have hland : execIn cfg (.rxEvent 0x55#8) s = .next (landByte 0x55#8 s) := rfl
  have hdispatch : execIn cfg .dispatch (landByte 0x55#8 s) = .next (dispatchNext (landByte 0x55#8 s)) :=
    execIn_of_enabled ((refusalOf_dispatch_of_full rfl).trans (dispatcherRefusal_of_idle cfg (by simpa using hs)))
  rw [List.cons_append, List.singleton_append, runIn_cons_of_next _ hland, runIn_cons_of_next _ hdispatch,
    dispatchNext_of_unlock (by simp [decodeCommand]), landByte_eq, afterUnlockByte]

theorem runIn_unlockBytes (cfg : Config) (n : Nat) {s : State} (hs : s.scan = .idle) :
    runIn cfg (List.replicate n [Instr.rxEvent 0x55#8, .dispatch]).flatten (afterUnlockByte s) =
      .next (afterUnlockByte s) := by
  induction n with
  | zero => rfl
  | succ n ih =>
    have hs' : (afterUnlockByte s).scan = .idle := hs
    rw [List.replicate_succ, List.flatten_cons, runIn_unlockByte cfg _ hs', afterUnlockByte_idem, ih]

/-- Settles O49: the first pair brings the node to where every further pair leaves it. -/
theorem unlockByteIsIdempotent : Obligations.UnlockByteIsIdempotent := by
  intro cfg n s hs
  rw [List.replicate_succ, List.flatten_cons]
  exact (runIn_unlockByte cfg _ hs).trans (runIn_unlockBytes cfg n hs)

/-! The monitor with an unbounded counter (R222, R225). -/

/-- The saturating count is the unbounded one cut off at the maximum, and stays so over a tick. -/
theorem satInc_min (cfg : Config) (n : Nat) : satInc cfg (min cfg.idleMax n) = min cfg.idleMax (n + 1) := by
  unfold satInc
  split <;> omega

/-- The cut-off lies at or above the threshold, so it hides no onset of blinking (R222). -/
theorem ledAfter_min (cfg : Config) (n : Nat) (led : Bool) :
    ledAfter cfg (min cfg.idleMax n) led = if cfg.threshold ≤ n then !led else true := by
  have hcut : cfg.threshold ≤ min cfg.idleMax n ↔ cfg.threshold ≤ n := by
    rw [le_min_iff, and_iff_right (threshold_le_idleMax cfg)]
  rw [ledAfter, if_congr hcut rfl rfl]

/-- Where the monitor stands by a count that may pass the maximum. -/
def MonitorAt (cfg : Config) (m : Nat × Bool) (s : State) : Prop := s.idleTicks = min cfg.idleMax m.1 ∧ s.led = m.2

/-- A list of ticks and resets keeps the monitor where the unbounded counter says (R222). -/
theorem runIn_monitorOps {cfg : Config} {ops : List Bool} {m : Nat × Bool} {s : State} (h : MonitorAt cfg m s)
    (hfree : false ∈ ops → dispatcherFree cfg s) :
    ∃ t, runIn cfg (ops.map monitorOp) s = .next t ∧ MonitorAt cfg (freeMonitor cfg.threshold ops m) t := by
  induction ops generalizing s m with
  | nil => exact ⟨s, rfl, h⟩
  | cons op ops ih =>
    obtain ⟨n, led⟩ := m
    obtain ⟨hcount, hled⟩ : s.idleTicks = min cfg.idleMax n ∧ s.led = led := h
    have hrest (hmem : false ∈ ops) : dispatcherFree cfg s := hfree (List.mem_cons_of_mem op hmem)
    cases op with
    | true =>
      have htick : execIn cfg .tick s = .next (tickNext cfg s) := rfl
      have hcount' : (tickNext cfg s).idleTicks = min cfg.idleMax (n + 1) := by
        rw [← satInc_min, ← hcount]
        rfl
      have hled' : (tickNext cfg s).led = if cfg.threshold ≤ n + 1 then !led else true := by
        rw [← ledAfter_min, ← hcount', ← hled]
        rfl
      rw [List.map_cons, monitorOp, if_pos rfl, runIn_cons_of_next _ htick]
      exact ih ⟨hcount', hled'⟩ hrest
    | false =>
      have hreset : execIn cfg .actReset s = .next (clearIdle s) :=
        execIn_eq_next_iff.mpr ⟨hfree List.mem_cons_self, rfl⟩
      rw [List.map_cons, monitorOp, if_neg nofun, runIn_cons_of_next _ hreset]
      exact ih (m := (0, led)) ⟨by simp, hled⟩ hrest

/-- Settles O38: a count in range is its own cut-off. -/
theorem saturationIsNotObservable : Obligations.SaturationIsNotObservable := by
  intro cfg ops s hrange hfree
  obtain ⟨t, hrun, hcount, hled⟩ := runIn_monitorOps (m := (s.idleTicks, s.led)) ⟨(min_eq_right hrange).symm, rfl⟩ hfree
  exact ⟨t, hrun, hled, hcount⟩

theorem freeMonitor_append (thr : Nat) (xs ys : List Bool) (m : Nat × Bool) :
    freeMonitor thr (xs ++ ys) m = freeMonitor thr ys (freeMonitor thr xs m) := by
  induction xs generalizing m with
  | nil => rfl
  | cons x xs ih => cases x <;> exact ih _

/-- `k` ticks from a count of 0: below the threshold the LED is on, at the threshold it goes dark, and from there on
every tick toggles it (R225). -/
theorem freeMonitor_ticks {thr k : Nat} {led : Bool} (hpos : 1 ≤ thr) (hled : led = true ∨ 2 ≤ thr) (hk : 1 ≤ k) :
    freeMonitor thr (List.replicate k true) (0, led) =
      (k, if k < thr then true else decide ((k - thr) % 2 = 1)) := by
  have htick (n : Nat) (lit : Bool) :
      freeMonitor thr [true] (n, lit) = (n + 1, if thr ≤ n + 1 then !lit else true) := rfl
  induction k, hk using Nat.le_induction with
  | base =>
    rw [List.replicate_one, htick]
    obtain rfl | hlt : thr = 1 ∨ 1 < thr := by omega
    · obtain rfl : led = true := hled.resolve_right (by omega)
      rfl
    · simp [hlt]
  | succ k hk ih =>
    rw [List.replicate_succ', freeMonitor_append, ih, htick, Prod.mk.injEq]
    refine ⟨rfl, ?_⟩
    obtain hbelow | rfl | habove : k + 1 < thr ∨ thr = k + 1 ∨ thr < k + 1 := by omega
    · rw [if_neg (by omega), if_pos hbelow]
    · simp
    · rw [if_pos (by omega), if_neg (by omega), if_neg (by omega), ← decide_not]
      exact decide_eq_decide.mpr (by omega)

/-- Settles O37: without saturation the count after `k` ticks is `k`. -/
theorem onsetOfBlinking : Obligations.OnsetOfBlinking := by
  intro cfg s k hzero hled hk
  have hstart : MonitorAt cfg (0, s.led) s := ⟨by simp [hzero], rfl⟩
  obtain ⟨t, hrun, -, hlit⟩ := runIn_monitorOps (ops := List.replicate k true) hstart (by simp)
  rw [List.map_replicate] at hrun
  rw [freeMonitor_ticks cfg.threshold_pos hled hk] at hlit
  exact ⟨t, hrun, hlit⟩

end Sys2Proof.Machine

/-! What every operation leaves alone, which ghost indicators it sets and what it adds to the output: one lemma each for
all of the operations, under any parameters. The invariants and the frame statements below go through these. -/

namespace Sys2Proof.Machine

/-! What the branching updates come to. -/

/-- A scanner step changes its phase within the row, or ends the scan, or drives another row (R122). -/
theorem scanNext_cases (cfg : Config) (col : Lines) (s : State) :
    (∃ x, scanNext cfg col s = { s with scan := x }) ∨ scanNext cfg col s = finishNoKey s ∨
      (∃ k, scanNext cfg col s = finishKey k s) ∨ ∃ r, scanNext cfg col s = probeRow r s := by
  have hstay : ∃ x, s = { s with scan := x } := ⟨s.scan, rfl⟩
  cases hs : s.scan with
  | idle => simpa only [scanNext, hs] using .inl hstay
  | probe r =>
    simp only [scanNext, hs, probeNext]
    split
    · split_ifs <;> exact .inl ⟨_, rfl⟩
    · split_ifs
      · exact .inr (.inl rfl)
      · exact .inr (.inr (.inr ⟨_, rfl⟩))
  | settle r c n =>
    simp only [scanNext, hs, settleNext]
    split_ifs <;> exact .inl ⟨_, rfl⟩
  | wait r c held =>
    simp only [scanNext, hs, waitNext, holdNext]
    split_ifs
    · split
      · exact .inl hstay
      · split_ifs
        · exact .inr (.inr (.inl ⟨_, rfl⟩))
        · exact .inl ⟨_, rfl⟩
    · exact .inr (.inr (.inl ⟨_, rfl⟩))

/-- A call starts a frame, or reaches the buffer alone, or is dropped; only in the address phase does it not start one,
and there only under `restart` does it (R162 to R164, R175). -/
theorem sendNext_cases (cfg : Config) (a b : Byte) (s : State) :
    (s.txIndex = .idle ∧ sendNext cfg a b s = startFrame a b s) ∨
    (s.txIndex = .done ∧ sendNext cfg a b s = note .transferOverwrite (startFrame a b s)) ∨
    (s.txIndex = .addrSent ∧ cfg.overwritePolicy = .restart ∧
      sendNext cfg a b s = note .transferOverwrite (emitStart a (loadFrame a b s))) ∨
    (s.txIndex = .addrSent ∧ cfg.overwritePolicy = .bufferOnly ∧
      sendNext cfg a b s = note .transferOverwrite (loadFrame a b s)) ∨
    (s.txIndex = .addrSent ∧ cfg.overwritePolicy = .ignore ∧ sendNext cfg a b s = s) := by
  cases ht : s.txIndex with
  | idle => simp [sendNext, ht]
  | done => simp [sendNext, ht]
  | addrSent => cases hp : cfg.overwritePolicy <;> simp [sendNext, ht, overwriteFrame, hp]

/-- A key is accepted, rejected, forwarded, or re-locks (R191, R194 to R196). -/
theorem keyNext_cases (cfg : Config) (k : Byte) (s : State) :
    (s.lockState ≠ .unlocked ∧ k = codeAt cfg s.codeIndex ∧ keyNext cfg k s = acceptKey cfg s) ∨
    (s.lockState ≠ .unlocked ∧ k ≠ codeAt cfg s.codeIndex ∧ keyNext cfg k s = rejectKey s) ∨
    (s.lockState = .unlocked ∧ keyNext cfg k s = relock s) ∨
    (s.lockState = .unlocked ∧ keyNext cfg k s = forwardKey cfg k s) := by
  by_cases hlock : s.lockState = .unlocked
  · rw [keyNext_of_unlocked hlock]
    by_cases hrelock : cfg.relockPolicy = .key k <;> simp [hrelock, hlock]
  · by_cases hk : k = codeAt cfg s.codeIndex
    · exact .inl ⟨hlock, hk, keyNext_of_right hlock hk⟩
    · exact .inr (.inl ⟨hlock, hk, keyNext_of_wrong hlock hk⟩)

/-- A digit is rendered while unlocked, and does nothing while locked (R208). -/
theorem applyDigit_cases (p : BitVec 3) (s : State) :
    (s.unlocked = true ∧ applyDigit p s = emit (.render p) { s with activePattern := p }) ∨
      (s.unlocked = false ∧ applyDigit p s = s) := by
  cases h : s.unlocked <;> simp [applyDigit, h]

/-! What an operation leaves alone, by the part of the state. -/

/-- What an operation leaves of the parts of the state that are another's business. -/
structure Leaves (i : Instr) (s t : State) : Prop where
  /-- Only the transmit half writes the PHY count (R171). -/
  phy : (∀ a b, i ≠ .beginSend a b) → i ≠ .txEvent → t.phyPending = s.phyPending
  /-- Only a key and a call write what the host owes (R191, R193). -/
  todo : (∀ k, i ≠ .key k) → (∀ a b, i ≠ .beginSend a b) → t.hostTodo = s.hostTodo
  /-- Only a key moves the unlock state machine (R191). -/
  lock : (∀ k, i ≠ .key k) → t.lockState = s.lockState ∧ t.codeIndex = s.codeIndex
  /-- Only an arriving byte fills the mailbox or changes the byte in it (R168). -/
  mailbox : (∀ b, i ≠ .rxEvent b) → (∀ a p, i ≠ .frame a p) → t.rxByte = s.rxByte ∧ (t.rxFull = true → s.rxFull = true)
  /-- The two fields that are no state of the spec (R10). -/
  stimulus : t.stimulus = s.stimulus
  result : i ≠ .rxTake → t.takeResult = s.takeResult

/-- Changes of these parts alone. -/
theorem NextOf.leaves {cfg : Config} {i : Instr} {s t : State} (h : NextOf cfg i s t) : Leaves i s t := by
  cases i with
  | scanStart => obtain ⟨-, rfl⟩ := h; constructor <;> simp
  | scanStep col =>
    obtain ⟨-, rfl⟩ := h
    obtain ⟨x, h⟩ | h | ⟨k, h⟩ | ⟨r, h⟩ := scanNext_cases cfg col s <;> rw [h] <;> constructor <;> simp
  | beginSend a b =>
    obtain ⟨-, rfl⟩ := h
    obtain ⟨-, h⟩ | ⟨-, h⟩ | ⟨-, -, h⟩ | ⟨-, -, h⟩ | ⟨-, -, h⟩ := sendNext_cases cfg a b (makeCall a b s) <;> rw [h] <;>
      constructor <;> simp
  | txEvent =>
    obtain ⟨-, rfl⟩ := h
    unfold txNext
    cases (reportSent s).txIndex <;> constructor <;> simp
  | rxEvent b => obtain rfl := h; constructor <;> simp
  | rxTake => obtain ⟨-, -, rfl⟩ := h; constructor <;> simp
  | tick => obtain rfl := h; constructor <;> simp [tickNext]
  | actReset => obtain ⟨-, rfl⟩ := h; constructor <;> simp
  | dispatch =>
    obtain ⟨-, -, rfl⟩ := h
    cases hc : decodeCommand s.rxByte with
    | unlock => rw [dispatchNext_of_unlock hc]; constructor <;> simp
    | digit p => rw [dispatchNext_of_digit hc]; split_ifs <;> constructor <;> simp
    | reserved => rw [dispatchNext_of_reserved hc]; constructor <;> simp
  | key k =>
    obtain ⟨-, rfl⟩ := h
    obtain ⟨-, -, h⟩ | ⟨-, -, h⟩ | ⟨-, h⟩ | ⟨-, h⟩ := keyNext_cases cfg k s <;> rw [h]
    · unfold acceptKey
      split_ifs <;> constructor <;> simp
    · constructor <;> simp [rejectKey]
    · constructor <;> simp [relock]
    · constructor <;> simp [forwardKey]
  | rgbRefresh => obtain ⟨-, rfl⟩ := h; constructor <;> simp
  | cmdU => obtain ⟨-, rfl⟩ := h; constructor <;> simp
  | cmdDigit p =>
    obtain ⟨-, rfl⟩ := h
    obtain ⟨-, h⟩ | ⟨-, h⟩ := applyDigit_cases p s <;> rw [h] <;> constructor <;> simp
  | cmdReserved b => obtain ⟨-, rfl⟩ := h; constructor <;> simp [applyReserved]
  | frame a p =>
    obtain rfl := h
    cases ownsAddr cfg a <;> constructor <;> simp

end Sys2Proof.Machine

namespace Sys2Proof.Machine

/-! The ghost indicators (R49, R241 to R245). -/

/-! The updates that note nothing. -/

@[simp] theorem noted_emit (n : Note) (e : OutEvent) (s : State) : noted n (emit e s) = noted n s := by
  cases n <;> simp [noted]

@[simp] theorem noted_emitStart (n : Note) (a : Byte) (s : State) : noted n (emitStart a s) = noted n s := by
  cases n <;> simp [noted]

@[simp] theorem noted_loadFrame (n : Note) (a b : Byte) (s : State) : noted n (loadFrame a b s) = noted n s := by
  cases n <;> simp [noted]

@[simp] theorem noted_startFrame (n : Note) (a b : Byte) (s : State) : noted n (startFrame a b s) = noted n s := by
  cases n <;> simp [noted]

@[simp] theorem noted_makeCall (n : Note) (a b : Byte) (s : State) : noted n (makeCall a b s) = noted n s := by
  cases n <;> simp [noted]

@[simp] theorem noted_reportSent (n : Note) (s : State) : noted n (reportSent s) = noted n s := by
  cases n <;> simp [noted]

@[simp] theorem noted_finishNoKey (n : Note) (s : State) : noted n (finishNoKey s) = noted n s := by
  cases n <;> simp [noted]

@[simp] theorem noted_finishKey (n : Note) (k : Byte) (s : State) : noted n (finishKey k s) = noted n s := by
  cases n <;> simp [noted]

@[simp] theorem noted_probeRow (n : Note) (r : Fin 4) (s : State) : noted n (probeRow r s) = noted n s := by
  cases n <;> simp [noted]

@[simp] theorem noted_applyUnlock (n : Note) (s : State) : noted n (applyUnlock s) = noted n s := by
  cases n <;> simp [noted]

@[simp] theorem noted_clearIdle (n : Note) (s : State) : noted n (clearIdle s) = noted n s := by
  cases n <;> simp [noted]

/-- Of two notes the second sets its own indicator and leaves the others. -/
theorem noted_note_eq (m n : Note) (s : State) : noted n (note m s) = (noted n s || decide (m = n)) := by
  cases m <;> cases n <;> simp [noted, note]

/-- A byte that lands on a waiting one is noted as lost (R168, R245). -/
theorem noted_landByte (n : Note) (b : Byte) (s : State) :
    noted n (landByte b s) = (noted n s || s.rxFull && decide (.rxLost = n)) := by
  cases n <;> simp [noted]

/-- The condition an operation notes, if any. -/
def notes (cfg : Config) (i : Instr) (s : State) : Option Note :=
  match i with
  | .beginSend _ _ =>
    if s.txIndex = .done ∨ s.txIndex = .addrSent ∧ cfg.overwritePolicy ≠ .ignore then some .transferOverwrite else none
  | .txEvent => if s.txIndex = .idle then some .spuriousTx else none
  | .rxEvent _ => if s.rxFull then some .rxLost else none
  | .frame a _ => if ownsAddr cfg a && s.rxFull then some .rxLost else none
  | .dispatch => if decodeCommand s.rxByte = .reserved then some .malformedReceive else none
  | .cmdReserved _ => some .malformedReceive
  | .key k => if s.lockState ≠ .unlocked ∧ k ≠ codeAt cfg s.codeIndex then some .inputMismatch else none
  | .scanStart | .scanStep _ | .rxTake | .tick | .actReset | .rgbRefresh | .cmdU | .cmdDigit _ => none

/-- The indicators after an operation: those before it, and the one it notes. -/
theorem NextOf.noted_eq {cfg : Config} {i : Instr} {s t : State} (h : NextOf cfg i s t) (n : Note) :
    noted n t = (noted n s || decide (notes cfg i s = some n)) := by
  cases i with
  | scanStart => obtain ⟨-, rfl⟩ := h; simp [notes]
  | scanStep col =>
    obtain ⟨-, rfl⟩ := h
    obtain ⟨x, h⟩ | h | ⟨k, h⟩ | ⟨r, h⟩ := scanNext_cases cfg col s <;> rw [h]
    · cases n <;> simp [noted, notes]
    all_goals simp [notes]
  | beginSend a b =>
    obtain ⟨-, rfl⟩ := h
    obtain ⟨ht, h⟩ | ⟨ht, h⟩ | ⟨ht, hp, h⟩ | ⟨ht, hp, h⟩ | ⟨ht, hp, h⟩ := sendNext_cases cfg a b (makeCall a b s) <;>
      rw [makeCall_txIndex] at ht <;> rw [h] <;> simp [notes, noted_note_eq, *]
  | txEvent =>
    obtain ⟨-, rfl⟩ := h
    cases ht : s.txIndex with
    | idle => simp [txNext, ht, notes, noted_note_eq]
    | addrSent => cases n <;> simp [txNext, noted, notes, ht]
    | done => cases n <;> simp [txNext, noted, notes, ht]
  | rxEvent b => obtain rfl := h; cases hf : s.rxFull <;> simp [notes, noted_landByte, hf]
  | rxTake => obtain ⟨-, -, rfl⟩ := h; cases n <;> simp [noted, notes]
  | tick => obtain rfl := h; cases n <;> simp [tickNext, noted, notes]
  | actReset => obtain ⟨-, rfl⟩ := h; simp [notes]
  | dispatch =>
    obtain ⟨-, -, rfl⟩ := h
    cases hc : decodeCommand s.rxByte with
    | unlock => rw [dispatchNext_of_unlock hc]; cases n <;> simp [noted, notes, hc]
    | digit p => rw [dispatchNext_of_digit hc]; split_ifs <;> cases n <;> simp [noted, notes, hc]
    | reserved => rw [dispatchNext_of_reserved hc]; cases n <;> simp [noted, notes, hc]
  | key k =>
    obtain ⟨-, rfl⟩ := h
    obtain ⟨hlock, hk, h⟩ | ⟨hlock, hk, h⟩ | ⟨hlock, h⟩ | ⟨hlock, h⟩ := keyNext_cases cfg k s <;> rw [h]
    · unfold acceptKey
      split_ifs <;> cases n <;> simp [noted, notes, hk]
    · cases n <;> simp [rejectKey, noted, notes, hlock, hk]
    · cases n <;> simp [relock, noted, notes, hlock]
    · cases n <;> simp [forwardKey, noted, notes, hlock]
  | rgbRefresh => obtain ⟨-, rfl⟩ := h; simp [notes]
  | cmdU => obtain ⟨-, rfl⟩ := h; simp [notes]
  | cmdDigit p =>
    obtain ⟨-, rfl⟩ := h
    obtain ⟨-, h⟩ | ⟨-, h⟩ := applyDigit_cases p s <;> rw [h] <;> cases n <;> simp [noted, notes]
  | cmdReserved b => obtain ⟨-, rfl⟩ := h; simp [applyReserved, notes, noted_note_eq]
  | frame a p =>
    obtain rfl := h
    cases ha : ownsAddr cfg a <;> cases hf : s.rxFull <;> simp [noted_landByte, notes, ha, hf]

/-! The output trace (R48). -/

/-- The event reports a scan or a colour: it goes neither to the PHY nor to the LCD collaborator (R48). -/
def reports : OutEvent → Bool
  | .scanDone _ | .duty _ _ _ => true
  | .start _ | .loadTx _ | .stop | .render _ => false

/-- Reports are all that was added to the output, and the pattern is as it was. -/
def OnlyReports (s t : State) : Prop :=
  (∃ es, t.out = s.out ++ es ∧ ∀ e ∈ es, reports e = true) ∧ t.activePattern = s.activePattern

/-- The new pattern was rendered, while unlocked (R208). -/
def RendersPattern (s t : State) : Prop := s.unlocked = true ∧ t.out = s.out ++ [.render t.activePattern]

theorem OnlyReports.of_silent {s t : State} (hout : t.out = s.out) (hpat : t.activePattern = s.activePattern) :
    OnlyReports s t := ⟨⟨[], by simp [hout], by simp⟩, hpat⟩

theorem OnlyReports.of_report {s t : State} {e : OutEvent} (he : reports e = true) (hout : t.out = s.out ++ [e])
    (hpat : t.activePattern = s.activePattern) : OnlyReports s t := ⟨⟨[e], hout, by simpa using he⟩, hpat⟩

theorem scanNext_onlyReports (cfg : Config) (col : Lines) (s : State) : OnlyReports s (scanNext cfg col s) := by
  obtain ⟨x, h⟩ | h | ⟨k, h⟩ | ⟨r, h⟩ := scanNext_cases cfg col s <;> rw [h]
  · exact .of_silent rfl rfl
  · exact .of_report rfl (finishNoKey_out s) rfl
  · exact .of_report rfl (finishKey_out k s) rfl
  · exact .of_silent rfl rfl

theorem keyNext_onlyReports (cfg : Config) (k : Byte) (s : State) : OnlyReports s (keyNext cfg k s) := by
  refine .of_silent (keyNext_out cfg k s) ?_
  obtain ⟨-, -, h⟩ | ⟨-, -, h⟩ | ⟨-, h⟩ | ⟨-, h⟩ := keyNext_cases cfg k s <;> rw [h]
  · unfold acceptKey
    split_ifs <;> rfl
  · exact note_activePattern _ _
  · rfl
  · rfl

/-- Of the commands only a digit emits, and what it emits is the pattern it selects (R208). -/
theorem applyCommand_out_cases (c : Command) (s : State) :
    OnlyReports s (applyCommand c s) ∨ RendersPattern s (applyCommand c s) := by
  cases c with
  | unlock => exact .inl (.of_silent rfl rfl)
  | digit p =>
    obtain ⟨hu, h⟩ | ⟨-, h⟩ := applyDigit_cases p s <;> rw [applyCommand, h]
    · exact .inr ⟨hu, rfl⟩
    · exact .inl (.of_silent rfl rfl)
  | reserved => exact .inl (.of_silent (applyReserved_out s) (note_activePattern _ _))

/-- What the operations outside the transmit half add to the output: reports, or the rendering of a new pattern. -/
theorem NextOf.out_of_not_transmit {cfg : Config} {i : Instr} {s t : State} (h : NextOf cfg i s t)
    (hsend : ∀ a b, i ≠ .beginSend a b) (htx : i ≠ .txEvent) : OnlyReports s t ∨ RendersPattern s t := by
  cases i with
  | beginSend a b => exact absurd rfl (hsend a b)
  | txEvent => exact absurd rfl htx
  | dispatch => obtain ⟨-, -, rfl⟩ := h; exact applyCommand_out_cases _ (clearIdle (emptyMailbox s))
  | cmdU => obtain ⟨-, rfl⟩ := h; exact applyCommand_out_cases .unlock s
  | cmdDigit p => obtain ⟨-, rfl⟩ := h; exact applyCommand_out_cases (.digit p) s
  | cmdReserved b => obtain ⟨-, rfl⟩ := h; exact applyCommand_out_cases .reserved s
  | scanStep col => obtain ⟨-, rfl⟩ := h; exact .inl (scanNext_onlyReports cfg col s)
  | key k => obtain ⟨-, rfl⟩ := h; exact .inl (keyNext_onlyReports cfg k s)
  | rgbRefresh => obtain ⟨-, rfl⟩ := h; exact .inl (.of_report rfl (emit_out _ s) rfl)
  | scanStart => obtain ⟨-, rfl⟩ := h; exact .inl (.of_silent rfl rfl)
  | rxEvent b => obtain rfl := h; exact .inl (.of_silent (landByte_out b s) (landByte_activePattern b s))
  | rxTake => obtain ⟨-, -, rfl⟩ := h; exact .inl (.of_silent rfl rfl)
  | tick => obtain rfl := h; exact .inl (.of_silent rfl rfl)
  | actReset => obtain ⟨-, rfl⟩ := h; exact .inl (.of_silent rfl rfl)
  | frame a p =>
    obtain rfl := h
    cases ownsAddr cfg a
    · exact .inl (.of_silent rfl rfl)
    · exact .inl (.of_silent (landByte_out p s) (landByte_activePattern p s))

/-- The event does not go to the PHY (R70, R171). -/
def offWire : OutEvent → Bool
  | .scanDone _ | .render _ | .duty _ _ _ => true
  | .start _ | .loadTx _ | .stop => false

theorem offWire_of_reports {e : OutEvent} (h : reports e = true) : offWire e = true := by
  cases e with
  | scanDone | duty | render => rfl
  | start | loadTx | stop => cases h

/-- Only the transmit half hands an event to the PHY. -/
theorem NextOf.out_offWire {cfg : Config} {i : Instr} {s t : State} (h : NextOf cfg i s t)
    (hsend : ∀ a b, i ≠ .beginSend a b) (htx : i ≠ .txEvent) :
    ∃ es, t.out = s.out ++ es ∧ ∀ e ∈ es, offWire e = true := by
  obtain ⟨⟨es, hout, hes⟩, -⟩ | ⟨-, hout⟩ := h.out_of_not_transmit hsend htx
  · exact ⟨es, hout, fun e he => offWire_of_reports (hes e he)⟩
  · exact ⟨_, hout, by simp [offWire]⟩

/-- What an operation adds to the output, with the cursor before and after it: a step of the transmit half adds at most
one event to the PHY, and no other operation adds one. -/
theorem NextOf.out_cases {cfg : Config} {i : Instr} {s t : State} (h : NextOf cfg i s t) :
    (∃ es, t.out = s.out ++ es ∧ (∀ e ∈ es, offWire e = true) ∧ t.txIndex = s.txIndex) ∨
    (∃ a, t.out = s.out ++ [.start a] ∧ t.txIndex = .addrSent ∧
      (s.txIndex = .addrSent → cfg.overwritePolicy = .restart)) ∨
    (∃ b, t.out = s.out ++ [.loadTx b] ∧ s.txIndex = .addrSent ∧ t.txIndex = .done) ∨
    (t.out = s.out ++ [.stop] ∧ s.txIndex = .done ∧ t.txIndex = .idle) := by
  by_cases hsend : ∃ a b, i = .beginSend a b
  · obtain ⟨a, b, rfl⟩ := hsend
    obtain ⟨-, rfl⟩ := h
    obtain ⟨ht, h⟩ | ⟨ht, h⟩ | ⟨ht, hp, h⟩ | ⟨ht, hp, h⟩ | ⟨ht, hp, h⟩ := sendNext_cases cfg a b (makeCall a b s) <;>
      rw [makeCall_txIndex] at ht <;> rw [h]
    · exact .inr (.inl ⟨a, rfl, rfl, by simp [ht]⟩)
    · exact .inr (.inl ⟨a, by simp, by simp, by simp [ht]⟩)
    · exact .inr (.inl ⟨a, by simp, by simp [ht], fun _ => hp⟩)
    · exact .inl ⟨[], by simp, by simp, by simp⟩
    · exact .inl ⟨[], by simp, by simp, by simp⟩
  by_cases htx : i = .txEvent
  · subst htx
    obtain ⟨-, rfl⟩ := h
    cases ht : s.txIndex with
    | idle => exact .inl ⟨[], by simp [txNext, ht]⟩
    | addrSent => exact .inr (.inr (.inl ⟨s.txPayload, by simp [txNext, ht]⟩))
    | done => exact .inr (.inr (.inr (by simp [txNext, ht])))
  · have hother : ∀ a b, i ≠ .beginSend a b := fun a b hi => hsend ⟨a, b, hi⟩
    obtain ⟨es, hout, hes⟩ := h.out_offWire hother htx
    exact .inl ⟨es, hout, hes, h.txIndex_eq hother htx⟩

/-- The output trace is only appended to (R48). -/
theorem NextOf.out_extends {cfg : Config} {i : Instr} {s t : State} (h : NextOf cfg i s t) : s.out <+: t.out := by
  obtain ⟨es, hout, -⟩ | ⟨a, hout, -⟩ | ⟨b, hout, -⟩ | ⟨hout, -⟩ := h.out_cases <;> exact ⟨_, hout.symm⟩

/-- What the operations do to the pattern: none changes it but by rendering the new one while unlocked (R43, R208). -/
theorem NextOf.pattern_cases {cfg : Config} {i : Instr} {s t : State} (h : NextOf cfg i s t) :
    (t.activePattern = s.activePattern ∧ ∀ p, OutEvent.render p ∈ t.out → OutEvent.render p ∈ s.out) ∨
      RendersPattern s t := by
  by_cases hsend : ∃ a b, i = .beginSend a b
  · obtain ⟨a, b, rfl⟩ := hsend
    obtain ⟨-, rfl⟩ := h
    obtain ⟨-, h⟩ | ⟨-, h⟩ | ⟨-, -, h⟩ | ⟨-, -, h⟩ | ⟨-, -, h⟩ := sendNext_cases cfg a b (makeCall a b s) <;>
      rw [h] <;> simp
  by_cases htx : i = .txEvent
  · subst htx
    obtain ⟨-, rfl⟩ := h
    cases ht : s.txIndex <;> simp [txNext, ht]
  · obtain ⟨⟨es, hout, hes⟩, hpat⟩ | hrender := h.out_of_not_transmit (fun a b hi => hsend ⟨a, b, hi⟩) htx
    · refine .inl ⟨hpat, fun p hp => ?_⟩
      rw [hout] at hp
      obtain hp | hp := List.mem_append.mp hp
      · exact hp
      · cases hes _ hp
    · exact .inr hrender

end Sys2Proof.Machine

/-! The invariants of a node, and what its operations read and write. -/

namespace Sys2Proof.Machine

/-! The order of the transmit half's output (R75, R172, R178). -/

/-- The automaton after one more event. -/
theorem phaseOf_append (restart : Bool) (xs ys : List OutEvent) :
    phaseOf restart (xs ++ ys) = (phaseOf restart xs).bind fun p => ys.foldlM (phaseStep restart) p :=
  List.foldlM_append

/-- Events that do not go to the PHY leave the automaton where it is. -/
theorem foldlM_phaseStep_offWire (restart : Bool) {es : List OutEvent} (hes : ∀ e ∈ es, offWire e = true)
    (p : TxIndex) : es.foldlM (phaseStep restart) p = some p := by
  induction es with
  | nil => rfl
  | cons e es ih =>
    have he : phaseStep restart p e = some p := by
      cases e with
      | scanDone | render | duty => rfl
      | start | loadTx | stop => cases hes _ List.mem_cons_self
    rw [List.foldlM_cons, he]
    exact ih fun e' hmem => hes e' (List.mem_cons_of_mem _ hmem)

/-- Every operation keeps the order, under any parameters. -/
theorem txOrder_of_nextOf {cfg : Config} {i : Instr} {s t : State} (hs : TxOrder cfg s) (h : NextOf cfg i s t) :
    TxOrder cfg t := by
  unfold TxOrder at *
  obtain ⟨es, hout, hes, ht⟩ | ⟨a, hout, ht, hrestart⟩ | ⟨b, hout, hcur, ht⟩ | ⟨hout, hcur, ht⟩ := h.out_cases <;>
    rw [hout, phaseOf_append, hs, ht, Option.bind_some]
  · exact foldlM_phaseStep_offWire _ hes _
  · have hopen : ¬(s.txIndex = .addrSent ∧ (cfg.overwritePolicy == .restart) = false) := by
      rintro ⟨hcur, hp⟩
      rw [hrestart hcur] at hp
      cases hp
    rw [List.foldlM_cons, phaseStep, if_neg hopen]
    rfl
  · rw [hcur]; rfl
  · rw [hcur]; rfl

/-- Settles O27: each operation emits what the automaton takes at the cursor, and leaves the cursor where that takes it.
-/
theorem transmitOrderIsKept : Obligations.TransmitOrderIsKept := by
  intro s t hs hstep
  obtain ⟨-, rfl⟩ | ⟨w, rest, i, -, -, h⟩ := step_eq_next_iff.mp hstep
  · exact hs
  · have hrest : TxOrder Config.platform (s.withStimulus rest) := hs
    exact txOrder_of_nextOf hrest h

/-- Settles O28: the automaton starts where the cursor is reset to. -/
theorem transmitOrderAtReset : Obligations.TransmitOrderAtReset := rfl

/-! The PHY's count (R171). -/

/-- A call hands over one byte, or none (R171). -/
theorem sendNext_balance (cfg : Config) (a b : Byte) (s : State) :
    (sendNext cfg a b s).phyPending + handed s.out = s.phyPending + handed (sendNext cfg a b s).out := by
  have hstart : handed [.start a] = 1 := rfl
  obtain ⟨-, h⟩ | ⟨-, h⟩ | ⟨-, -, h⟩ | ⟨-, -, h⟩ | ⟨-, -, h⟩ := sendNext_cases cfg a b s <;> rw [h] <;>
    simp [hstart] <;> omega

/-- An event takes no byte of its own: what is reported sent is taken off before (R171). -/
theorem txNext_balance (s : State) : (txNext s).phyPending + handed s.out = s.phyPending + handed (txNext s).out := by
  have hload (b : Byte) : handed [.loadTx b] = 1 := rfl
  have hstop : handed [.stop] = 0 := rfl
  cases ht : s.txIndex with
  | idle => simp [txNext, ht]
  | addrSent =>
    simp only [txNext, ht, emitLoadTx_phyPending, emitLoadTx_out, handed_concat, hload]
    omega
  | done => simp [txNext, ht, hstop]

/-- Settles O29: the transmit half keeps the balance, and no other operation writes either side of it. -/
theorem phyPendingCountsBytes : Obligations.PhyPendingCountsBytes := by
  intro i s t hexec
  rw [exec_eq_execIn] at hexec
  have h := execIn_eq_next_iff.mp hexec
  by_cases htx : i = .txEvent
  · subst htx
    obtain ⟨hp, rfl⟩ := h
    have hbalance := txNext_balance (reportSent s)
    rw [reportSent_out, reportSent_phyPending] at hbalance
    rw [if_pos rfl]
    omega
  rw [if_neg htx, Nat.add_zero]
  by_cases hsend : ∃ a b, i = .beginSend a b
  · obtain ⟨a, b, rfl⟩ := hsend
    obtain ⟨-, rfl⟩ := h
    exact sendNext_balance _ a b (makeCall a b s)
  · have hother : ∀ a b, i ≠ .beginSend a b := fun a b hi => hsend ⟨a, b, hi⟩
    rw [h.leaves.phy hother htx, h.handed_eq hother htx]

/-- Only a call over a transfer in flight is noted as an overwrite (R164, R175). -/
theorem inFlight_of_notes_transferOverwrite {cfg : Config} {i : Instr} {s : State}
    (h : notes cfg i s = some .transferOverwrite) : (∃ a b, i = .beginSend a b) ∧ s.txIndex ≠ .idle := by
  cases i with
  | beginSend a b =>
    refine ⟨⟨a, b, rfl⟩, fun hidle => ?_⟩
    simp [notes, hidle] at h
  | txEvent | rxEvent | frame | dispatch | cmdReserved | key => simp [notes] at h
  | scanStart | scanStep | rxTake | tick | actReset | rgbRefresh | cmdU | cmdDigit => cases h

/-- Settles O30: a host that polls the cursor never calls over a transfer in flight. -/
theorem pollingTheCursorAvoidsOverwrite : Obligations.PollingTheCursorAvoidsOverwrite := by
  intro i s t hexec hpoll
  rw [exec_eq_execIn] at hexec
  have hnoted := (execIn_eq_next_iff.mp hexec).noted_eq .transferOverwrite
  have hquiet : notes Config.platform i s ≠ some .transferOverwrite := by
    intro h
    obtain ⟨⟨a, b, hi⟩, hbusy⟩ := inFlight_of_notes_transferOverwrite h
    exact hbusy (hpoll a b hi)
  simpa [noted, hquiet] using hnoted

/-! The display's pattern (R43, R208). -/

/-- Settles O51: the other way an operation can end leaves the pattern as it is. -/
theorem patternChangesOnlyWhileUnlocked : Obligations.PatternChangesOnlyWhileUnlocked := by
  intro i s t hexec hne
  rw [exec_eq_execIn] at hexec
  exact (execIn_eq_next_iff.mp hexec).pattern_cases.resolve_left fun h => hne h.1

/-! The invariant of a node. -/

/-- The count of closed samples is in range (R133). -/
def heldOk (cfg : Config) (held : Nat) : Prop := ∀ n, cfg.releaseTimeout = some n → held = 0 ∨ held < n

theorem scanCountsOk_of_settle {cfg : Config} {s : State} {r c : Fin 4} {n : Nat} (hs : s.scan = .settle r c n) :
    scanCountsOk cfg s ↔ 1 ≤ n ∧ n ≤ cfg.debounceDelay := by simp only [scanCountsOk, hs]

/-- Without a timeout the closed samples are not counted; with one the count is below it. -/
theorem scanCountsOk_of_wait {cfg : Config} {s : State} {r c : Fin 4} {held : Nat} (hs : s.scan = .wait r c held) :
    scanCountsOk cfg s ↔ (cfg.releaseTimeout = none → held = 0) ∧ heldOk cfg held := by
  simp only [scanCountsOk, hs, heldOk]
  cases cfg.releaseTimeout <;> simp

theorem scanCountsOk_of_wait_zero {cfg : Config} {s : State} {r c : Fin 4} (hs : s.scan = .wait r c 0) :
    scanCountsOk cfg s := (scanCountsOk_of_wait hs).mpr ⟨fun _ => rfl, fun _ _ => .inl rfl⟩

theorem scanCountsOk_of_idle {cfg : Config} {s : State} (hs : s.scan = .idle) : scanCountsOk cfg s := by
  simp only [scanCountsOk, hs]

theorem scanCountsOk_of_probe {cfg : Config} {s : State} {r : Fin 4} (hs : s.scan = .probe r) : scanCountsOk cfg s := by
  simp only [scanCountsOk, hs]

theorem scanCountsOk_congr {cfg : Config} {s t : State} (h : t.scan = s.scan) (hs : scanCountsOk cfg s) :
    scanCountsOk cfg t := by
  unfold scanCountsOk at *
  rwa [h]

/-- A closed sample keeps the count in range: it is not counted, or counted below the bound, or the scan ends. -/
theorem scanCountsOk_holdNext {cfg : Config} {s : State} (r c : Fin 4) (held : Nat)
    (h : scanCountsOk cfg s) : scanCountsOk cfg (holdNext cfg r c held s) := by
  cases hto : cfg.releaseTimeout with
  | none => rwa [holdNext_of_unbounded r c held s hto]
  | some n =>
    rw [holdNext_of_bounded r c held s hto]
    split_ifs with hbound
    · exact scanCountsOk_of_idle rfl
    · refine (scanCountsOk_of_wait rfl).mpr ⟨fun hnone => ?_, fun m hm => .inr ?_⟩
      · rw [hto] at hnone
        cases hnone
      · rw [hto] at hm
        cases hm
        omega

/-- A scanner step keeps the counts in range (R124, R133). -/
theorem scanCountsOk_scanNext {cfg : Config} (col : Lines) {s : State} (h : scanCountsOk cfg s) :
    scanCountsOk cfg (scanNext cfg col s) := by
  cases hs : s.scan with
  | idle => simpa only [scanNext, hs] using h
  | probe r =>
    simp only [scanNext, hs, probeNext]
    split
    · split_ifs with hdelay
      · exact scanCountsOk_of_wait_zero rfl
      · exact (scanCountsOk_of_settle rfl).mpr ⟨by omega, le_rfl⟩
    · split_ifs
      · exact scanCountsOk_of_idle rfl
      · exact scanCountsOk_of_probe rfl
  | settle r c n =>
    obtain ⟨hpos, hle⟩ := (scanCountsOk_of_settle hs).mp h
    simp only [scanNext, hs, settleNext]
    split_ifs
    · exact scanCountsOk_of_wait_zero rfl
    · exact (scanCountsOk_of_settle rfl).mpr ⟨by omega, by omega⟩
  | wait r c held =>
    simp only [scanNext, hs, waitNext]
    split_ifs
    · exact scanCountsOk_holdNext r c held h
    · exact scanCountsOk_of_idle rfl

/-- The operations outside the scanner leave its counts alone. -/
theorem scanCountsOk_of_nextOf {cfg : Config} {i : Instr} {s t : State} (hs : scanCountsOk cfg s)
    (h : NextOf cfg i s t) : scanCountsOk cfg t := by
  by_cases hstart : i = .scanStart
  · subst hstart
    obtain ⟨-, rfl⟩ := h
    exact scanCountsOk_of_probe rfl
  by_cases hstep : ∃ col, i = .scanStep col
  · obtain ⟨col, rfl⟩ := hstep
    obtain ⟨-, rfl⟩ := h
    exact scanCountsOk_scanNext col hs
  · exact scanCountsOk_congr (h.scanner_eq hstart (not_exists.mp hstep)).1 hs

/-- The idle count stays in range (R39, R222). -/
theorem idleTicks_le_of_nextOf {cfg : Config} {i : Instr} {s t : State} (hs : s.idleTicks ≤ cfg.idleMax)
    (h : NextOf cfg i s t) : t.idleTicks ≤ cfg.idleMax := by
  by_cases htick : i = .tick
  · subst htick
    obtain rfl := h
    exact satInc_le cfg hs
  · rw [(h.monitor_eq htick).1]
    split_ifs
    · exact Nat.zero_le _
    · exact hs

/-- What each key does to the cursor goes with what it does to the lock state (R197). -/
theorem cursorFollowsLock_of_nextOf {cfg : Config} {i : Instr} {s t : State} (hs : cursorFollowsLock s)
    (h : NextOf cfg i s t) : cursorFollowsLock t := by
  by_cases hkey : ∃ k, i = .key k
  · obtain ⟨k, rfl⟩ := hkey
    obtain ⟨-, rfl⟩ := h
    obtain ⟨-, -, h⟩ | ⟨-, -, h⟩ | ⟨-, h⟩ | ⟨-, h⟩ := keyNext_cases cfg k s <;> rw [h]
    · unfold acceptKey
      split_ifs with hlast
      · simp [cursorFollowsLock]
      · have hnext : nextCode s.codeIndex ≠ 0 := by
          unfold nextCode
          generalize s.codeIndex = i at *
          revert i
          decide
        simp [cursorFollowsLock, hnext]
    · simp [cursorFollowsLock, rejectKey]
    · simp [cursorFollowsLock, relock]
    · exact hs
  · obtain ⟨hlock, hcode⟩ := h.leaves.lock (not_exists.mp hkey)
    unfold cursorFollowsLock at *
    rwa [hlock, hcode]

@[simp] theorem sendNext_hostTodo (cfg : Config) (a b : Byte) (s : State) :
    (sendNext cfg a b s).hostTodo = s.hostTodo := by
  obtain ⟨-, h⟩ | ⟨-, h⟩ | ⟨-, -, h⟩ | ⟨-, -, h⟩ | ⟨-, -, h⟩ := sendNext_cases cfg a b s <;> rw [h] <;> simp

/-- A key leaves what was owed, or two sends in its place (R191, R195). -/
theorem keyNext_hostTodo_cases (cfg : Config) (k : Byte) (s : State) :
    (keyNext cfg k s).hostTodo = s.hostTodo ∨ ∃ b, (keyNext cfg k s).hostTodo = bothSends cfg b := by
  obtain ⟨-, -, h⟩ | ⟨-, -, h⟩ | ⟨-, h⟩ | ⟨-, h⟩ := keyNext_cases cfg k s <;> rw [h]
  · unfold acceptKey
    split_ifs
    · exact .inr ⟨_, rfl⟩
    · exact .inl rfl
  · exact .inl (note_hostTodo _ _)
  · exact .inl rfl
  · exact .inr ⟨_, rfl⟩

/-- The host owes at most the two sends of one key (R42, R193). -/
theorem hostTodo_length_le_of_nextOf {cfg : Config} {i : Instr} {s t : State} (hs : s.hostTodo.length ≤ 2)
    (h : NextOf cfg i s t) : t.hostTodo.length ≤ 2 := by
  by_cases hkey : ∃ k, i = .key k
  · obtain ⟨k, rfl⟩ := hkey
    obtain ⟨-, rfl⟩ := h
    obtain h | ⟨b, h⟩ := keyNext_hostTodo_cases cfg k s <;> rw [h]
    · exact hs
    · exact le_rfl
  by_cases hsend : ∃ a b, i = .beginSend a b
  · obtain ⟨a, b, rfl⟩ := hsend
    obtain ⟨-, rfl⟩ := h
    rw [sendNext_hostTodo, makeCall_hostTodo]
    exact (todoAfter_length_le a b _).trans hs
  · rwa [h.leaves.todo (not_exists.mp hkey) fun a b hi => hsend ⟨a, b, hi⟩]

/-- A call leaves the PHY with a byte: the one it hands over, or the one of the transfer in flight (R171). -/
theorem sendNext_phyPending_pos {cfg : Config} (a b : Byte) {s : State} (hs : s.txIndex ≠ .idle → 1 ≤ s.phyPending) :
    1 ≤ (sendNext cfg a b s).phyPending := by
  obtain ⟨-, h⟩ | ⟨-, h⟩ | ⟨-, -, h⟩ | ⟨ht, -, h⟩ | ⟨ht, -, h⟩ := sendNext_cases cfg a b s <;> rw [h]
  · simp
  · simp
  · simp
  · rw [note_phyPending, loadFrame_phyPending]
    exact hs (by simp [ht])
  · exact hs (by simp [ht])

/-- While a transfer is in flight the PHY holds a byte (R171). -/
theorem phyPending_pos_of_nextOf {cfg : Config} {i : Instr} {s t : State} (hs : s.txIndex ≠ .idle → 1 ≤ s.phyPending)
    (h : NextOf cfg i s t) : t.txIndex ≠ .idle → 1 ≤ t.phyPending := by
  by_cases hsend : ∃ a b, i = .beginSend a b
  · obtain ⟨a, b, rfl⟩ := hsend
    obtain ⟨-, rfl⟩ := h
    exact fun _ => sendNext_phyPending_pos a b hs
  by_cases htx : i = .txEvent
  · subst htx
    obtain ⟨-, rfl⟩ := h
    cases ht : s.txIndex <;> simp [txNext, ht]
  · have hother : ∀ a b, i ≠ .beginSend a b := fun a b hi => hsend ⟨a, b, hi⟩
    rwa [h.txIndex_eq hother htx, h.leaves.phy hother htx]

/-- While locked nothing was rendered, and the pattern is that of the reset (R43, R208). -/
theorem pattern_of_nextOf {cfg : Config} {i : Instr} {s t : State}
    (hs : s.unlocked = false → s.activePattern = 0#3 ∧ ∀ p, OutEvent.render p ∉ s.out) (h : NextOf cfg i s t) :
    t.unlocked = false → t.activePattern = 0#3 ∧ ∀ p, OutEvent.render p ∉ t.out := by
  intro hlocked
  have hwas : s.unlocked = false := Bool.eq_false_iff.mpr fun hu => by
    rw [h.unlocked_of_unlocked hu] at hlocked
    cases hlocked
  obtain ⟨hpat, hnone⟩ := hs hwas
  obtain ⟨hsame, hout⟩ | ⟨hu, -⟩ := h.pattern_cases
  · exact ⟨hsame.trans hpat, fun p hp => hnone p (hout p hp)⟩
  · rw [hwas] at hu
    cases hu

/-- Every operation keeps every clause of the invariant, under any parameters. -/
theorem nodeInv_of_nextOf {cfg : Config} {i : Instr} {s t : State} (hs : NodeInv cfg s) (h : NextOf cfg i s t) :
    NodeInv cfg t where
  rows := rowsFollowScan_of_nextOf hs.rows h
  counts := scanCountsOk_of_nextOf hs.counts h
  idle := idleTicks_le_of_nextOf hs.idle h
  cursor := cursorFollowsLock_of_nextOf hs.cursor h
  todo := hostTodo_length_le_of_nextOf hs.todo h
  phy := phyPending_pos_of_nextOf hs.phy h
  pattern := pattern_of_nextOf hs.pattern h

/-- The stimulus is no part of the node, and the invariant speaks of the node alone (R10). -/
theorem nodeInv_withStimulus {cfg : Config} {s : State} (ws : List Word) (hs : NodeInv cfg s) :
    NodeInv cfg (s.withStimulus ws) :=
  { rows := hs.rows, counts := hs.counts, idle := hs.idle, cursor := hs.cursor, todo := hs.todo, phy := hs.phy,
    pattern := hs.pattern }

/-- The order of the host program keeps a scan from starting while a send is owed, and a scan keeps the host from owing
one (R131, R193). -/
theorem noSendOwedInScan_of_inTurn {cfg : Config} {i : Instr} {s t : State} (hs : noSendOwedInScan s)
    (hturn : hostInTurn cfg i s = true) (h : NextOf cfg i s t) : noSendOwedInScan t := by
  intro hscan
  by_cases hkey : ∃ k, i = .key k
  · obtain ⟨k, rfl⟩ := hkey
    obtain ⟨hidle, rfl⟩ := h
    rw [(keyNext_scanner cfg k s).1] at hscan
    exact absurd hidle hscan
  by_cases hsend : ∃ a b, i = .beginSend a b
  · obtain ⟨a, b, rfl⟩ := hsend
    obtain ⟨hidle, rfl⟩ := h
    rw [(sendNext_scanner cfg a b _).1, makeCall_scan] at hscan
    exact absurd hidle hscan
  rw [h.leaves.todo (not_exists.mp hkey) fun a b hi => hsend ⟨a, b, hi⟩]
  by_cases hstart : i = .scanStart
  · subst hstart
    cases htodo : s.hostTodo with
    | nil => rfl
    | cons r rest => simp [hostInTurn, htodo, hostStep] at hturn
  by_cases hstep : ∃ col, i = .scanStep col
  · obtain ⟨col, rfl⟩ := hstep
    obtain ⟨hrunning, -⟩ := h
    exact hs hrunning
  · rw [(h.scanner_eq hstart (not_exists.mp hstep)).1] at hscan
    exact hs hscan

/-- Settles O53: every operation keeps each clause, so a step does, and a trace by induction over its operations; the
last clause is kept by the operations that are in turn. -/
theorem nodeInvariantIsKept : Obligations.NodeInvariantIsKept := by
  refine ⟨fun s t hs hstep => ?step, fun cfg is s t hs hscan hrun => ?trace⟩
  case step =>
    obtain ⟨-, rfl⟩ | ⟨w, rest, i, -, -, h⟩ := step_eq_next_iff.mp hstep
    · exact hs
    · exact nodeInv_of_nextOf (nodeInv_withStimulus rest hs) h
  case trace =>
    induction is generalizing s with
    | nil =>
      cases hrun
      exact ⟨hs, hscan⟩
    | cons i is ih =>
      obtain ⟨hturn, u, hexec, hrest⟩ := runHost_cons_eq_next_iff.mp hrun
      have h := execIn_eq_next_iff.mp hexec
      exact ih u (nodeInv_of_nextOf hs h) (noSendOwedInScan_of_inTurn hscan hturn h) hrest

/-- Settles O54: clause by clause. -/
theorem nodeInvariantAtReset : Obligations.NodeInvariantAtReset := by
  intro cfg
  have hcursor : cursorFollowsLock State.reset := by simp [cursorFollowsLock, State.reset]
  have hinv : NodeInv cfg State.reset :=
    { rows := rfl, counts := trivial, idle := Nat.zero_le _, cursor := hcursor, todo := Nat.zero_le _,
      phy := fun h => absurd rfl h, pattern := fun _ => ⟨rfl, fun _ => List.not_mem_nil⟩ }
  exact ⟨hinv, fun _ => rfl⟩

end Sys2Proof.Machine

/-! What the operations read and write (R10, R48, R49, R252): the frame of an interrupt step, and the fields that no
operation reads. -/

namespace Sys2Proof.Machine

/-! Interrupt steps (R252, R254). -/

/-- Settles O55: the four interrupt steps, field by field. -/
theorem interruptStepsAreNarrow : Obligations.InterruptStepsAreNarrow := by
  intro i s t hi hexec
  rw [exec_eq_execIn] at hexec
  have h := execIn_eq_next_iff.mp hexec
  cases i with
  | txEvent =>
    obtain ⟨-, rfl⟩ := h
    cases ht : s.txIndex <;> simp [txNext, ht]
  | rxEvent b => obtain rfl := h; simp
  | tick => obtain rfl := h; simp [tickNext]
  | frame a p =>
    obtain rfl := h
    cases ownsAddr Config.platform a <;> simp
  | scanStart | scanStep | beginSend | rxTake | actReset | dispatch | key | rgbRefresh => cases hi
  | cmdU | cmdDigit | cmdReserved => cases hi

/-! The fields that no operation reads: the ghost indicators (R49) and the two ends of the host's interface (R10). -/

/-- The state with other values in the fields that no operation reads. -/
def withUnread (g : Note → Bool) (r : Option Byte) (ws : List Word) (s : State) : State :=
  { s with
    gInputMismatch := g .inputMismatch
    gTransferOverwrite := g .transferOverwrite
    gMalformedReceive := g .malformedReceive
    gRxLost := g .rxLost
    gSpuriousTx := g .spuriousTx
    takeResult := r
    stimulus := ws }

/-- What the operations can see of a state: the same in all states that differ in the unread fields alone. -/
def visible (s : State) : State := withUnread (fun _ => false) none [] s

/-- Other values in the two fields that `State` adds to `Node`. -/
theorem withInterface_eq_withUnread (r : Option Byte) (ws : List Word) (s : State) :
    { s with takeResult := r, stimulus := ws } = withUnread (fun n => noted n s) r ws s := rfl

@[simp] theorem noted_withUnread (n : Note) (g : Note → Bool) (r : Option Byte) (ws : List Word) (s : State) :
    noted n (withUnread g r ws s) = g n := by cases n <;> rfl

/-- Two states with the same visible part and the same ends of the interface differ in the indicators alone. -/
theorem eraseGhosts_eq_of_visible_eq {s t : State} (h : visible s = visible t) (hr : s.takeResult = t.takeResult)
    (hw : s.stimulus = t.stimulus) : eraseGhosts s = eraseGhosts t := by
  have hs (u : State) : eraseGhosts u = withUnread (fun _ => false) u.takeResult u.stimulus (visible u) := rfl
  rw [hs s, hs t, h, hr, hw]

/-- Two states with the same visible part and the same indicators are the same node. -/
theorem toNode_eq_of_visible_eq {s t : State} (h : visible s = visible t) (hn : ∀ n, noted n s = noted n t) :
    s.toNode = t.toNode := by
  have hs (u : State) : u.toNode = (withUnread (fun n => noted n u) none [] (visible u)).toNode := rfl
  rw [hs s, hs t, h, funext hn]

theorem visible_note (n : Note) (s : State) : visible (note n s) = visible s := by cases n <;> rfl

section
variable (g : Note → Bool) (r : Option Byte) (ws : List Word) (s : State)

theorem refusalOf_withUnread (cfg : Config) (i : Instr) :
    refusalOf cfg i (withUnread g r ws s) = refusalOf cfg i s := by
  cases i <;> rfl

theorem notes_withUnread (cfg : Config) (i : Instr) : notes cfg i (withUnread g r ws s) = notes cfg i s := by
  cases i <;> rfl

theorem visible_scanNext (cfg : Config) (col : Lines) :
    visible (scanNext cfg col (withUnread g r ws s)) = visible (scanNext cfg col s) := by
  unfold scanNext
  have hscan : (withUnread g r ws s).scan = s.scan := rfl
  rw [hscan]
  cases s.scan with
  | idle => rfl
  | probe r =>
    simp only [probeNext]
    cases lowestZero col <;> simp only <;> split_ifs <;> rfl
  | settle r c n => simp only [settleNext]; split_ifs <;> rfl
  | wait r c held =>
    simp only [waitNext, holdNext]
    split_ifs
    · cases cfg.releaseTimeout <;> simp only
      · rfl
      · split_ifs <;> rfl
    · rfl

theorem visible_sendNext (cfg : Config) (a b : Byte) :
    visible (sendNext cfg a b (withUnread g r ws s)) = visible (sendNext cfg a b s) := by
  unfold sendNext
  have hcur : (withUnread g r ws s).txIndex = s.txIndex := rfl
  rw [hcur]
  cases s.txIndex with
  | idle => rfl
  | addrSent => cases h : cfg.overwritePolicy <;> simp only [overwriteFrame, visible_note] <;> rfl
  | done => rfl

theorem visible_txNext : visible (txNext (withUnread g r ws s)) = visible (txNext s) := by
  unfold txNext
  have hcur : (withUnread g r ws s).txIndex = s.txIndex := rfl
  rw [hcur]
  cases s.txIndex <;> rfl

theorem visible_landByte (b : Byte) : visible (landByte b (withUnread g r ws s)) = visible (landByte b s) := by
  rw [landByte_eq, landByte_eq]
  rfl

theorem visible_applyCommand (c : Command) :
    visible (applyCommand c (withUnread g r ws s)) = visible (applyCommand c s) := by
  cases c with
  | unlock => rfl
  | digit p =>
    have hu : (withUnread g r ws s).unlocked = s.unlocked := rfl
    simp only [applyCommand, applyDigit, hu]
    split_ifs <;> rfl
  | reserved => rfl

theorem visible_keyNext (cfg : Config) (k : Byte) :
    visible (keyNext cfg k (withUnread g r ws s)) = visible (keyNext cfg k s) := by
  have hlock : (withUnread g r ws s).lockState = s.lockState := rfl
  have hcode : (withUnread g r ws s).codeIndex = s.codeIndex := rfl
  simp only [keyNext, hlock, hcode]
  split_ifs
  · unfold unlockedKey
    cases cfg.relockPolicy with
    | none => rfl
    | key c => simp only; split_ifs <;> rfl
  · simp only [acceptKey, hcode]
    split_ifs <;> rfl
  · rfl

/-- No operation reads the unread fields: what is visible of the next state does not depend on them. -/
theorem visible_nextState (cfg : Config) (i : Instr) :
    visible (nextState cfg i (withUnread g r ws s)) = visible (nextState cfg i s) := by
  cases i with
  | scanStep col => exact visible_scanNext g r ws s cfg col
  | beginSend a b => exact visible_sendNext g r ws (makeCall a b s) cfg a b
  | txEvent => exact visible_txNext g r ws (reportSent s)
  | rxEvent b => exact visible_landByte g r ws s b
  | dispatch => exact visible_applyCommand g r ws (clearIdle (emptyMailbox s)) _
  | key k => exact visible_keyNext g r ws s cfg k
  | cmdDigit p => exact visible_applyCommand g r ws s (.digit p)
  | frame a p =>
    simp only [nextState]
    split_ifs
    · exact visible_landByte g r ws s p
    · rfl
  | scanStart | rxTake | tick | actReset | rgbRefresh | cmdU | cmdReserved => rfl

end

/-- An operation that is enabled answers its next state. -/
theorem nextOf_nextState {cfg : Config} {i : Instr} {s : State} (h : refusalOf cfg i s = none) :
    NextOf cfg i s (nextState cfg i s) :=
  execIn_eq_next_iff.mp (execIn_of_enabled h)

/-- Settles O56: the indicators are set and never cleared, the output is appended to, and of two states that differ in
the indicators alone the next states are visibly the same. -/
theorem ghostsAreStickyAndUnread : Obligations.GhostsAreStickyAndUnread := by
  refine ⟨fun n => by cases n <;> rfl, fun i n s t hexec hn => ?sticky, fun i s => ?unread, fun i s t hexec => ?output⟩
  case sticky =>
    rw [exec_eq_execIn] at hexec
    rw [(execIn_eq_next_iff.mp hexec).noted_eq n, hn, Bool.true_or]
  case output =>
    rw [exec_eq_execIn] at hexec
    exact (execIn_eq_next_iff.mp hexec).out_extends
  case unread =>
    have hrefusal : refusalOf Config.platform i (eraseGhosts s) = refusalOf Config.platform i s :=
      refusalOf_withUnread (fun _ => false) s.takeResult s.stimulus s _ i
    rw [exec_eq_execIn, exec_eq_execIn, execIn_eq_answer, execIn_eq_answer, hrefusal]
    cases h : refusalOf Config.platform i s with
    | some x => rfl
    | none =>
      have hleft := (nextOf_nextState (hrefusal.trans h)).leaves
      have hright := (nextOf_nextState h).leaves
      have hvisible := visible_nextState (fun _ => false) s.takeResult s.stimulus s Config.platform i
      refine congrArg Host.Outcome.next (eraseGhosts_eq_of_visible_eq hvisible ?_ ?_)
      · by_cases htake : i = .rxTake
        · subst htake
          rfl
        · rw [hleft.result htake, hright.result htake]
          rfl
      · rw [hleft.stimulus, hright.stimulus]
        rfl

/-- Settles O57: with other values in the two fields an operation has the same refusal, the same visible next state and
the same notes. -/
theorem nodeIsClosedUnderOperations : Obligations.NodeIsClosedUnderOperations := by
  intro cfg i s r ws
  have hrefusal := refusalOf_withUnread (fun n => noted n s) r ws s cfg i
  rw [withInterface_eq_withUnread]
  refine ⟨fun t hexec => ?next, fun x hx => ?refused⟩
  case refused =>
    rw [execIn_eq_refused_iff] at hx ⊢
    rw [hrefusal, hx]
  case next =>
    have h := execIn_eq_next_iff.mp hexec
    have henabled : refusalOf cfg i s = none := by
      rw [execIn_eq_answer] at hexec
      exact (answer_eq_next_iff.mp hexec).1
    refine ⟨h.leaves.stimulus, h.leaves.result, _, execIn_of_enabled (hrefusal.trans henabled), ?_⟩
    rw [h.eq_nextState]
    have hnotes := notes_withUnread (fun n => noted n s) r ws s cfg i
    refine toNode_eq_of_visible_eq (visible_nextState (fun n => noted n s) r ws s cfg i) fun n => ?_
    calc noted n (nextState cfg i (withUnread (fun n => noted n s) r ws s))
        = (noted n s || decide (notes cfg i s = some n)) := by
          rw [(nextOf_nextState (hrefusal.trans henabled)).noted_eq n, hnotes, noted_withUnread]
      _ = noted n (nextState cfg i s) := ((nextOf_nextState henabled).noted_eq n).symm

end Sys2Proof.Machine

/-! The host's order (R193) and one iteration of each main loop (R199, R214). -/

namespace Sys2Proof.Machine

/-- Settles O42: refusals inside a scan come from the guards, and refusals of a trace or of a system's controller from
the host's order. -/
theorem hostOperationsTurnedAway : Obligations.HostOperationsTurnedAway := by
  refine ⟨fun s k hs => ⟨if_neg hs, if_neg hs, fun hfull => ?take⟩, fun cfg i is s htodo hi hne => ?outOfTurn,
    fun cfg r rest is s hs htodo => ?due, fun cfg i is s t hi hexec => ?otherAgent⟩
  case take =>
    obtain ⟨-, hinside, -⟩ := rxTakeEmptiesTheMailbox
    exact hinside s hfull hs
  case outOfTurn =>
    obtain ⟨r, rest, htodo⟩ := List.exists_cons_of_ne_nil htodo
    have hturn := hostInTurn_eq_false htodo hi (hne r rest htodo)
    refine ⟨runHost_of_outOfTurn is hturn, fun y hparams hcontroller => ?_⟩
    rw [← hparams, ← hcontroller] at hturn
    simp [sysStep, hturn]
  case due =>
    have hexec : execIn cfg (.beginSend r.addr r.payload) s = .next _ := execIn_of_enabled (hostRefusal_of_idle hs)
    refine ⟨_, hexec, ?_, runHost_cons_of_next is ((hostInTurn_of_cons htodo).mpr (.inr rfl)) hexec⟩
    simp [nextState, htodo]
  case otherAgent =>
    refine ⟨(execIn_eq_next_iff.mp hexec).leaves.todo ?_ ?_,
      runHost_cons_of_next is (hostInTurn_of_not_hostStep hi) hexec⟩
    · rintro k rfl
      cases hi
    · rintro a b rfl
      cases hi

/-- With no send owed, a run of operations that make the host owe none is a trace of the host program. -/
theorem runHost_of_runIn {cfg : Config} {is : List Instr} {s t : State} (htodo : s.hostTodo = [])
    (his : ∀ i ∈ is, (∀ k, i ≠ .key k) ∧ ∀ a b, i ≠ .beginSend a b) (hrun : runIn cfg is s = .next t) :
    runHost cfg is s = .next t ∧ t.hostTodo = [] := by
  induction is generalizing s with
  | nil =>
    cases hrun
    exact ⟨rfl, htodo⟩
  | cons i is ih =>
    obtain ⟨u, hexec, hrest⟩ := runIn_cons_eq_next_iff.mp hrun
    obtain ⟨hkey, hsend⟩ := his i List.mem_cons_self
    have hu : u.hostTodo = [] := ((execIn_eq_next_iff.mp hexec).leaves.todo hkey hsend).trans htodo
    rw [runHost_cons_of_next is (hostInTurn_of_nil htodo) hexec]
    exact ih hu (fun j hj => his j (List.mem_cons_of_mem i hj)) hrest

/-- The sends that the host owes, made in their order, leave nothing owed (R193). -/
theorem runHost_sendsOf (cfg : Config) (todo : List SendReq) (is : List Instr) {s : State} (hs : s.scan = .idle)
    (htodo : s.hostTodo = todo) :
    ∃ t, t.scan = .idle ∧ t.hostTodo = [] ∧ runHost cfg (sendsOf todo ++ is) s = runHost cfg is t := by
  induction todo generalizing s with
  | nil => exact ⟨s, hs, htodo, rfl⟩
  | cons r rest ih =>
    have hexec : execIn cfg (.beginSend r.addr r.payload) s = .next (nextState cfg (.beginSend r.addr r.payload) s) :=
      execIn_of_enabled (hostRefusal_of_idle hs)
    obtain ⟨t, ht, hempty, hrun⟩ := ih (s := nextState cfg (.beginSend r.addr r.payload) s)
      (by simp [nextState, hs]) (by simp [nextState, htodo])
    refine ⟨t, ht, hempty, ?_⟩
    rw [← hrun]
    exact runHost_cons_of_next _ ((hostInTurn_of_cons htodo).mpr (.inr rfl)) hexec

/-- The colour refresh ends an iteration of the controller's loop (R199). -/
theorem runHost_rgbRefresh (cfg : Config) {s : State} (hs : s.scan = .idle) (htodo : s.hostTodo = []) :
    ∃ u, runHost cfg [.rgbRefresh] s = .next u ∧ endsWell u = true ∧ u.lockState = s.lockState ∧
      u.codeIndex = s.codeIndex :=
  ⟨emit (dutyOf cfg (colorFor cfg s.lockState)) s,
    runHost_cons_of_next [] (hostInTurn_of_nil htodo) (execIn_of_enabled (hostRefusal_of_idle hs)),
    (endsWell_iff _).mpr ⟨hs, htodo⟩, rfl, rfl⟩

/-- Whatever the key, the loop makes the sends it leaves and comes to its end (R192, R199). -/
theorem runHost_afterScan_key (cfg : Config) (k : Byte) {s : State} (hs : s.scan = .idle) (htodo : s.hostTodo = []) :
    ∃ u, runHost cfg (afterScan cfg (some k) s) s = .next u ∧ endsWell u = true := by
  have hscan : (keyNext cfg k s).scan = .idle := (keyNext_scanner cfg k s).1.trans hs
  obtain ⟨t, ht, hempty, hsends⟩ := runHost_sendsOf cfg _ [.rgbRefresh] hscan rfl
  obtain ⟨u, hrun, hend, -⟩ := runHost_rgbRefresh cfg ht hempty
  refine ⟨u, ?_, hend⟩
  rw [afterScan, runHost_cons_of_next _ (hostInTurn_of_nil htodo) (execIn_key_of_idle cfg k hs), hsends, hrun]

/-- With no send owed, a run of scanner operations is a trace of the host program, and none is owed at its end. -/
theorem runHost_of_runIn_scanner {cfg : Config} {is : List Instr} {s t : State} (htodo : s.hostTodo = [])
    (his : ∀ i ∈ is, i = .scanStart ∨ ∃ col, i = .scanStep col) (hrun : runIn cfg is s = .next t) :
    runHost cfg is s = .next t ∧ t.hostTodo = [] := by
  refine runHost_of_runIn htodo (fun i hi => ?_) hrun
  obtain rfl | ⟨col, rfl⟩ := his i hi <;> simp

theorem mem_press {cfg : Config} {r c : Fin 4} {w : Nat} {i : Instr} (hi : i ∈ press cfg r c w) :
    i = .scanStart ∨ ∃ col, i = .scanStep col := by
  simp only [press, List.mem_cons, List.mem_append, List.mem_replicate, List.not_mem_nil, or_false] at hi
  obtain rfl | ⟨-, rfl⟩ | rfl | ⟨-, rfl⟩ | ⟨-, rfl⟩ | rfl := hi
  · exact .inl rfl
  all_goals exact .inr ⟨_, rfl⟩

theorem mem_scanNone {i : Instr} (hi : i ∈ scanNone) : i = .scanStart ∨ ∃ col, i = .scanStep col := by
  simp only [scanNone, List.mem_cons, List.mem_replicate] at hi
  obtain rfl | ⟨-, rfl⟩ := hi
  · exact .inl rfl
  · exact .inr ⟨_, rfl⟩

/-- The dispatcher takes the byte, whatever it is (R206). -/
@[simp] theorem dispatchNext_rxFull (s : State) : (dispatchNext s).rxFull = false := by
  cases h : decodeCommand s.rxByte with
  | unlock => rw [dispatchNext_of_unlock h]
  | digit p => rw [dispatchNext_of_digit h]; split_ifs <;> rfl
  | reserved => rw [dispatchNext_of_reserved h]

/-- Settles O52: a scan leaves the host owing nothing, so its key and the refresh are in turn; the sends that the key
leaves are made in their order. -/
theorem mainLoopIterationCompletes : Obligations.MainLoopIterationCompletes := by
  intro cfg s hs htodo
  refine ⟨fun r c w h => ?press, ?noKey, ?display⟩
  case press =>
    obtain ⟨hpress, htodo'⟩ :=
      runHost_of_runIn_scanner htodo (fun _ => mem_press) (pressYieldsItsKeyOnce cfg r c w s h hs)
    obtain ⟨u, hrun, hend⟩ := runHost_afterScan_key cfg (keyAt cfg r c) (by exact hs) htodo'
    exact ⟨_, u, hpress, hrun, hend⟩
  case noKey =>
    obtain ⟨-, hscan⟩ := scanNoneFindsNoKey cfg s hs
    obtain ⟨hnone, htodo'⟩ := runHost_of_runIn_scanner htodo (fun _ => mem_scanNone) hscan
    obtain ⟨u, hrun, hend, hlock, hcode⟩ := runHost_rgbRefresh cfg (by exact hs) htodo'
    exact ⟨_, u, hnone, hrun, hend, hlock, hcode⟩
  case display =>
    cases hfull : s.rxFull with
    | false => exact ⟨s, by simp [displayIteration, hfull, runHost], hfull, (endsWell_iff s).mpr ⟨hs, htodo⟩⟩
    | true =>
      have hexec : execIn cfg .dispatch s = .next (dispatchNext s) :=
        execIn_of_enabled ((refusalOf_dispatch_of_full hfull).trans (dispatcherRefusal_of_idle cfg hs))
      have hleaves := (execIn_eq_next_iff.mp hexec).leaves
      refine ⟨dispatchNext s, ?_, ?_, (endsWell_iff _).mpr ⟨(dispatchNext_scanner s).1.trans hs, ?_⟩⟩
      · rw [displayIteration, if_pos hfull]
        exact runHost_cons_of_next [] (hostInTurn_of_nil htodo) hexec
      · exact dispatchNext_rxFull s
      · exact (hleaves.todo nofun nofun).trans htodo

end Sys2Proof.Machine

/-! The system of one controller and its receivers (R77, R173, R263, R273). -/

namespace Sys2Proof.Machine

/-! What an event of the system can do. -/

/-- The event `e` takes the `j`-th receiver from `r` to `r'`, `loads` being on the wire: its own step, a delivery, or
its reset. -/
def ReceiverEvent (loads : List LinkLoad) (e : SysEvent) (j : Nat) (r r' : Receiver) : Prop :=
  (∃ i, e = .receiver j i ∧ receiverStep i r = some r') ∨ (∃ k, e = .deliver j k ∧ deliverTo loads k r = some r') ∨
    (e = .resetReceiver j ∧ r' = restartReceiver r)

/-- An event changes the controller alone, by an operation or its reset, or one receiver alone. -/
theorem sysStep_cases {y y' : System} {e : SysEvent} (h : sysStep y e = some y') :
    (∃ i t, e = .controller i ∧ NextOf y.params i y.controller t ∧ y' = { y with controller := t }) ∨
    (e = .resetController ∧ y' = restartController y) ∨
    ∃ j r r', y.receivers[j]? = some r ∧ ReceiverEvent y.loads e j r r' ∧
      y' = { y with receivers := y.receivers.set j r' } := by
  cases e with
  | controller i =>
    simp only [sysStep] at h
    split_ifs at h
    split at h
    · next t ht =>
      cases h
      exact .inl ⟨i, t, rfl, execIn_eq_next_iff.mp ht, rfl⟩
    · cases h
  | receiver j i =>
    simp only [sysStep] at h
    split at h
    · cases h
    · next r hr =>
      obtain ⟨r', hr', rfl⟩ := Option.map_eq_some_iff.mp h
      exact .inr (.inr ⟨j, r, r', hr, .inl ⟨i, rfl, hr'⟩, rfl⟩)
  | deliver j k =>
    simp only [sysStep] at h
    split at h
    · cases h
    · next r hr =>
      obtain ⟨r', hr', rfl⟩ := Option.map_eq_some_iff.mp h
      exact .inr (.inr ⟨j, r, r', hr, .inr (.inl ⟨k, rfl, hr'⟩), rfl⟩)
  | resetController =>
    cases h
    exact .inr (.inl ⟨rfl, rfl⟩)
  | resetReceiver j =>
    simp only [sysStep] at h
    split at h
    · cases h
    · next r hr =>
      cases h
      exact .inr (.inr ⟨j, r, _, hr, .inr (.inr ⟨rfl, rfl⟩), rfl⟩)

/-- A receiver's own step is an operation of the display node on its state. -/
theorem receiverStep_eq_some {i : Instr} {r r' : Receiver} (h : receiverStep i r = some r') :
    usedByDisplay i = true ∧ ∃ t, NextOf r.params i r.node t ∧ r' = { r with node := t } := by
  unfold receiverStep at h
  split_ifs at h with hi
  split at h
  · next t ht =>
    cases h
    exact ⟨hi, t, execIn_eq_next_iff.mp ht, rfl⟩
  · cases h

/-- A delivery lands the payload of a load that lies ahead and may reach the receiver (R173). -/
theorem deliverTo_eq_some {loads : List LinkLoad} {k : Nat} {r r' : Receiver} (h : deliverTo loads k r = some r') :
    ∃ l, loads[k]? = some l ∧ r.behind ≤ k ∧ loadReaches r.params l = true ∧
      r' = { r with node := landByte l.payload r.node, behind := k + 1, got := r.got ++ [l.payload] } := by
  unfold deliverTo at h
  split at h
  · cases h
  · next l hl =>
    split_ifs at h with hdue
    obtain ⟨hbehind, hreach⟩ := hdue
    cases h
    exact ⟨l, hl, hbehind, hreach, rfl⟩

/-! The receivers' account (R77). -/

/-- The loads that lie behind a receiver, up to one that may reach it, are those before it and that one. -/
theorem payloadsFor_succ {cfg : Config} {loads : List LinkLoad} {k : Nat} {l : LinkLoad} (hl : loads[k]? = some l)
    (hreach : loadReaches cfg l = true) : payloadsFor cfg loads (k + 1) = payloadsFor cfg loads k ++ [l.payload] := by
  simp [payloadsFor, List.take_add_one, hl, hreach]

/-- More loads behind, more payloads that may have reached the node. -/
theorem payloadsFor_sublist {cfg : Config} {loads : List LinkLoad} {m n : Nat} (h : m ≤ n) :
    (payloadsFor cfg loads m).Sublist (payloadsFor cfg loads n) := by
  exact ((List.take_sublist_take_left h).filter _).map _

/-- A delivery adds to what was given a payload that lies ahead. -/
theorem receiverOk_of_delivery {loads : List LinkLoad} {k : Nat} {r r' : Receiver} (hr : receiverOk loads r)
    (h : deliverTo loads k r = some r') : receiverOk loads r' := by
  obtain ⟨l, hl, hbehind, hreach, rfl⟩ := deliverTo_eq_some h
  obtain ⟨-, hgot, -⟩ := hr
  refine ⟨?_, ?_, fun _ => by simp⟩
  · obtain ⟨hlt, -⟩ := List.getElem?_eq_some_iff.mp hl
    exact hlt
  · rw [payloadsFor_succ hl hreach]
    exact (hgot.trans (payloadsFor_sublist hbehind)).append (List.Sublist.refl _)

/-- The display node's own operations bring nothing into the mailbox. -/
theorem receiverOk_of_receiverStep {loads : List LinkLoad} {i : Instr} {r r' : Receiver} (hr : receiverOk loads r)
    (h : receiverStep i r = some r') : receiverOk loads r' := by
  obtain ⟨hi, t, hn, rfl⟩ := receiverStep_eq_some h
  obtain ⟨hbehind, hgot, hlast⟩ := hr
  have hrx : ∀ b, i ≠ .rxEvent b := by rintro b rfl; cases hi
  have hframe : ∀ a p, i ≠ .frame a p := by rintro a p rfl; cases hi
  obtain ⟨hbyte, hfull⟩ := hn.leaves.mailbox hrx hframe
  refine ⟨hbehind, hgot, fun hwaits => ?_⟩
  rw [hlast (hfull hwaits)]
  exact congrArg some hbyte.symm

theorem receiverOk_of_receiverEvent {loads : List LinkLoad} {e : SysEvent} {j : Nat} {r r' : Receiver}
    (hr : receiverOk loads r) (h : ReceiverEvent loads e j r r') : receiverOk loads r' := by
  obtain ⟨i, -, h⟩ | ⟨k, -, h⟩ | ⟨-, rfl⟩ := h
  · exact receiverOk_of_receiverStep hr h
  · exact receiverOk_of_delivery hr h
  · obtain ⟨hbehind, hgot, -⟩ := hr
    exact ⟨hbehind, hgot, nofun⟩

/-- An operation of the controller adds loads at the end of the wire, or none. -/
theorem loads_of_nextOf {y : System} {i : Instr} {t : State} (h : NextOf y.params i y.controller t) :
    ∃ more, System.loads { y with controller := t } = y.loads ++ more := by
  obtain ⟨es, hout⟩ := h.out_extends
  obtain ⟨open', hloads⟩ := linkLoadsFrom_append y.controller.out es []
  refine ⟨linkLoadsFrom open' es, ?_⟩
  simp only [System.loads, linkLoads, ← hout, hloads, List.append_assoc]

/-- Every event of the system keeps the receivers' account right. -/
theorem sysInv_of_sysStep {y y' : System} {e : SysEvent} (hy : SysInv y) (h : sysStep y e = some y') : SysInv y' := by
  obtain ⟨i, t, -, hn, rfl⟩ | ⟨-, rfl⟩ | ⟨j, r, r', hr, hevent, rfl⟩ := sysStep_cases h
  · obtain ⟨more, hloads⟩ := loads_of_nextOf hn
    intro r hr
    rw [hloads]
    exact receiverOk_append (hy r hr)
  · intro r hr
    rw [restartController_loads]
    exact hy r hr
  · intro q hq
    obtain hq | rfl := List.mem_or_eq_of_mem_set hq
    · exact hy q hq
    · exact receiverOk_of_receiverEvent (hy r (List.mem_of_getElem? hr)) hevent

/-! Undisturbed loads (R173). -/

/-- The addresses started since the last stop, after one more event. -/
def openStep (open' : List Byte) (e : OutEvent) : List Byte :=
  match e with
  | .start a => a :: open'
  | .stop => []
  | .loadTx _ | .scanDone _ | .render _ | .duty _ _ _ => open'

/-- The loads of more output, the addresses still open being those that the first part leaves. -/
theorem linkLoadsFrom_append_foldl (xs ys : List OutEvent) (open' : List Byte) :
    linkLoadsFrom open' (xs ++ ys) = linkLoadsFrom open' xs ++ linkLoadsFrom (xs.foldl openStep open') ys := by
  induction xs generalizing open' with
  | nil => rfl
  | cons e xs ih => cases e <;> simp [linkLoadsFrom, openStep, ih]

/-- Where nothing is open and nothing is started, nothing comes to be open. -/
theorem foldl_openStep_of_quiet {es : List OutEvent} (hes : ∀ e ∈ es, ∀ c, e ≠ .start c) :
    es.foldl openStep [] = [] := by
  induction es with
  | nil => rfl
  | cons e es ih =>
    have he : openStep [] e = [] := by
      cases e with
      | start a => exact absurd rfl (hes _ List.mem_cons_self a)
      | loadTx | stop | scanDone | render | duty => rfl
    rw [List.foldl_cons, he]
    exact ih fun e' hmem => hes e' (List.mem_cons_of_mem e hmem)

/-- Without a start or a stop the same addresses stay open. -/
theorem foldl_openStep_of_inside {es : List OutEvent} (hes : ∀ e ∈ es, e ≠ .stop ∧ ∀ c, e ≠ .start c)
    (open' : List Byte) : es.foldl openStep open' = open' := by
  induction es with
  | nil => rfl
  | cons e es ih =>
    obtain ⟨hstop, hstart⟩ := hes e List.mem_cons_self
    have he : openStep open' e = open' := by
      cases e with
      | start a => exact absurd rfl (hstart a)
      | stop => exact absurd rfl hstop
      | loadTx | scanDone | render | duty => rfl
    rw [List.foldl_cons, he]
    exact ih fun e' hmem => hes e' (List.mem_cons_of_mem e hmem)

/-- At the beginning and after a stop nothing is open. -/
theorem foldl_openStep_of_closed {es : List OutEvent} (hes : es = [] ∨ es.getLast? = some .stop) :
    es.foldl openStep [] = [] := by
  obtain rfl | hlast := hes
  · rfl
  · obtain ⟨init, rfl⟩ := List.getLast?_eq_some_iff.mp hlast
    rw [List.foldl_append]
    rfl

/-- Settles O58: the wire only grows, a delivery hands over the next payload that may reach the receiver, and no other
event brings a byte into a mailbox; an undisturbed load follows the one start since the last stop. -/
theorem receiversSeeOnlyWhatWasSent : Obligations.ReceiversSeeOnlyWhatWasSent := by
  refine ⟨fun y y' e => sysInv_of_sysStep, fun before quiet during a b hbefore hquiet hduring => ?_⟩
  have hopen : (before ++ quiet ++ .start a :: during).foldl openStep [] = [a] := by
    rw [List.foldl_append, List.foldl_append, foldl_openStep_of_closed hbefore, foldl_openStep_of_quiet hquiet,
      List.foldl_cons, foldl_openStep_of_inside hduring]
    rfl
  rw [linkLoads, linkLoadsFrom_append_foldl, hopen]
  rfl

/-- Settles O59: nothing was delivered, and every mailbox is empty. -/
theorem receiversAtReset : Obligations.ReceiversAtReset := by
  intro params rs r hr
  obtain ⟨c, -, rfl⟩ := List.mem_map.mp hr
  exact ⟨Nat.zero_le _, List.Sublist.refl _, nofun⟩

/-! Resets (R273). -/

/-- A receiver that holds `unlocked` holds it after every event of its own but the reset (R212). -/
theorem unlocked_of_receiverEvent {loads : List LinkLoad} {e : SysEvent} {j : Nat} {r r' : Receiver}
    (h : ReceiverEvent loads e j r r') (hu : r.node.unlocked = true) (he : e ≠ .resetReceiver j) :
    r'.node.unlocked = true ∧ r'.params = r.params := by
  obtain ⟨i, -, h⟩ | ⟨k, -, h⟩ | ⟨hreset, -⟩ := h
  · obtain ⟨-, t, hn, rfl⟩ := receiverStep_eq_some h
    exact ⟨hn.unlocked_of_unlocked hu, rfl⟩
  · obtain ⟨l, -, -, -, rfl⟩ := deliverTo_eq_some h
    exact ⟨(landByte_unlocked _ _).trans hu, rfl⟩
  · exact absurd hreset he

/-- Settles O60: an event changes the controller or one receiver, and of a receiver's own events only its reset clears
`unlocked`. -/
theorem resetOfOneNodeLeavesTheOthers : Obligations.ResetOfOneNodeLeavesTheOthers := by
  refine ⟨fun y => ⟨restartController y, rfl, rfl, rfl, rfl⟩, fun y j r hr => ?receiver,
    fun y y' e j r h hr hu he => ?unlocked⟩
  case receiver =>
    obtain ⟨hlt, -⟩ := List.getElem?_eq_some_iff.mp hr
    refine ⟨{ y with receivers := y.receivers.set j (restartReceiver r) }, by simp only [sysStep, hr], rfl, rfl,
      List.getElem?_set_self hlt, fun k hk => List.getElem?_set_ne hk.symm⟩
  case unlocked =>
    obtain ⟨i, t, -, -, rfl⟩ | ⟨-, rfl⟩ | ⟨j', q, q', hq, hevent, rfl⟩ := sysStep_cases h
    · exact ⟨r, hr, hu, rfl⟩
    · exact ⟨r, hr, hu, rfl⟩
    · obtain rfl | hne := eq_or_ne j j'
      · rw [hr] at hq
        cases hq
        obtain ⟨hlt, -⟩ := List.getElem?_eq_some_iff.mp hr
        exact ⟨q', List.getElem?_set_self hlt, unlocked_of_receiverEvent hevent hu he⟩
      · exact ⟨r, (List.getElem?_set_ne hne.symm).trans hr, hu, rfl⟩

end Sys2Proof.Machine
